-- ==== Sys2Proof/Word.lean ====
section
/-! DEFINITION. The two word widths of the core (00_scope.md R6, R8): u8 and u16, as bit vectors, so that
arithmetic wraps as R8 says. -/

namespace Sys2Proof

/-- A u8: a register, a memory cell, an I/O datum, a port number (R6, R8). -/
abbrev Byte := BitVec 8

/-- A u16: SP, PC, a memory address, a register pair (R6, R8). -/
abbrev Word := BitVec 16

end Sys2Proof
end

