-- ==== Sys2Proof/Config.lean ====
section
/-! DEFINITION. What is fixed for the machine and what the spec leaves free: the implementation parameters of
00_scope.md R6, and the answers of an attached I/O device (20_memory.md R75). -/

namespace Sys2Proof

/-- One I/O event of `io_trace` (20_memory.md R75, R76). -/
inductive IoEvent where
  /-- (In, port, value): IN read `value` from `port` (R75). -/
  | input (port value : Byte)
  /-- (Out, port, value): OUT wrote `value` to `port` (R76). -/
  | output (port value : Byte)
deriving DecidableEq, Repr

/-- The two values the parameter `UNDOC_POLICY` may take for the opcodes 0xCB, 0xD9, 0xDD, 0xED and 0xFD
(00_scope.md R6; 47_io_machine_control.md R317). -/
inductive UndocPolicy where
  /-- Each of the five is its documented instruction: JMP, RET, CALL (R102). -/
  | documentedForm
  /-- Each of the five is a one-byte NOP (R317). -/
  | nopForm
deriving DecidableEq, Repr

/-- What `UNDOC_POLICY` takes: the spec's value, "alias" (R6, R102). Log 10. -/
def Config.undocPolicy : UndocPolicy := .documentedForm

/-- `IO_DEFAULT_IN`: what IN reads with no device attached (R6, R73). Log 10. -/
def Config.ioDefaultIn : Byte := 0x00

/-- What a byte of memory reads as from reset until it is written (R63: "Initial content after reset is zero"). -/
def Config.memoryReset : Byte := 0x00

/-- `io_env` (R6, R75): the value an attached device answers to a read, "a fresh draw of any u8". A free value:
it has no body, so nothing can be proved of it. It is applied to the device's number, the number of the draw, the
port and the I/O events so far, so that an answer may depend on all a device has seen. Log 2. -/
opaque Config.ioEnv (device draw : Nat) (port : Byte) (trace : List IoEvent) : Byte

end Sys2Proof
end

