-- ==== Sys2Proof/Machine/State.lean ====
section
/-! DEFINITION. The state of the core (10_state.md R20 to R36), as plain data, and the state after reset. -/

namespace Sys2Proof.Machine

/-- The five status flags, one bit each (R27). The fixed bits of the flag byte are not stored (R27, R28). -/
structure Flags where
  s : Bool
  z : Bool
  ac : Bool
  p : Bool
  cy : Bool
deriving DecidableEq, Repr

/-- The 64 KiB memory (20_memory.md R60): the bytes that differ from what memory holds after reset, by rising address.
An address that is not listed reads as `Config.memoryReset`. Log 6. -/
abbrev Memory := List Host.Cell

/-- The one form of a memory: addresses strictly rising, each below 65,536 (R60), and no entry equal to what an unlisted
address reads as, so that equal memories are equal lists. -/
abbrev Memory.wf (m : Memory) : Prop :=
  m.Pairwise (fun x y => x.1 < y.1) ∧ ∀ c ∈ m, c.1 < 2 ^ 16 ∧ c.2 ≠ Config.memoryReset

/-- The I/O attachment (R73; 70_reset_and_hazards.md R374): the default port stubs, or a device the host attached,
under a number of the host's. It is configuration, which only `attach_io` changes. Log 4. -/
inductive IoAttachment where
  | defaultStubs
  | device (id : Nat)
deriving DecidableEq, Repr

/-- Everything the spec gives the core, with what the model keeps of the I/O environment. -/
structure State where
  /-- The general registers (R21). -/
  a : Byte
  b : Byte
  c : Byte
  d : Byte
  e : Byte
  h : Byte
  l : Byte
  /-- The stack pointer (R25). -/
  sp : Word
  /-- The program counter: the address of the next byte to fetch (R26). -/
  pc : Word
  /-- The status flags (R27). -/
  flags : Flags
  /-- The execution state: halted, or running (R30). -/
  halted : Bool
  /-- The memory (20_memory.md R60). -/
  mem : Memory
  /-- The I/O attachment (R73), configuration. Log 4. -/
  io : IoAttachment
  /-- How many reads an attached device has answered. The model's own: it numbers the draws from `io_env` (R75). Log 2. -/
  ioDraws : Nat
  /-- `io_trace`, the I/O events so far, oldest first (R75, R76), an observation. Log 3. -/
  ioTrace : List IoEvent
deriving DecidableEq, Repr

/-- Why a step faults: never. "The core defines no error kinds" (60_exceptions.md R330), so there is no constructor.
Safe. Log 7. -/
inductive Fault where
deriving DecidableEq, Repr

/-- Why a step refuses: never, since every opcode byte has a rule (R344). Log 7. -/
inductive Refusal where
  /-- Raised by `exec`'s arm of an instruction that has no meaning yet; no arm is left that does. Safe. -/
  | notModelled (mnemonic : String)
deriving DecidableEq, Repr

/-- The core right after reset, and at creation (R36, R360, R365): registers 0, flags 0, memory all zero, running; and,
for a new core, no device attached (R365) and no I/O event yet (logs 2, 3, 4). -/
def State.reset : State where
  a := 0x00
  b := 0x00
  c := 0x00
  d := 0x00
  e := 0x00
  h := 0x00
  l := 0x00
  sp := 0x0000
  pc := 0x0000
  flags := ⟨false, false, false, false, false⟩
  halted := false
  mem := []
  io := .defaultStubs
  ioDraws := 0
  ioTrace := []

end Sys2Proof.Machine
end

