-- ==== Sys2Proof/Machine/Flags.lean ====
section
/-! DEFINITION. The flag engine (40_flag_engine.md R120 to R135) and the flag byte (10_state.md R28): pure functions. As
R120 asks, a result is computed as an unbounded integer and narrowed at the end. -/

namespace Sys2Proof.Machine

/-- A flag as a bit, 0 or 1 (R10). -/
def bit (x : Bool) : Nat := if x then 1 else 0

/-! ## The flag byte (R28) -/

/-- `FlagByte()` (R28): bit 7 to bit 0, `S Z 0 AC 0 P 1 CY`. -/
def flagByte (f : Flags) : Byte :=
  BitVec.ofNat 8 (bit f.s * 128 + bit f.z * 64 + bit f.ac * 16 + bit f.p * 4 + 2 + bit f.cy)

/-- `SetFlagByte(v)` (R28): bits 5, 3 and 1 are discarded. -/
def flagsOfByte (v : Byte) : Flags where
  s := v.getLsbD 7
  z := v.getLsbD 6
  ac := v.getLsbD 4
  p := v.getLsbD 2
  cy := v.getLsbD 0

/-! ## Parity (R121) -/

/-- P: the XOR of the eight bits is 0 (R121). -/
def parityEven (v : Byte) : Bool :=
  !(v.getLsbD 7 ^^ v.getLsbD 6 ^^ v.getLsbD 5 ^^ v.getLsbD 4 ^^ v.getLsbD 3 ^^ v.getLsbD 2 ^^ v.getLsbD 1 ^^ v.getLsbD 0)

/-! ## The engine's functions (R129 to R135) -/

/-- A result byte with the flags computed for it. -/
structure AluResult where
  res : Byte
  flags : Flags
deriving DecidableEq, Repr

/-- The low nibble, `v & 0x0F` (R124 to R126). -/
def lowNibble (v : Byte) : Nat := v.toNat % 16

/-- A result with `SZP(res)`, its S, Z and P (R121), and the AC and CY given. -/
def resultWith (res : Byte) (ac cy : Bool) : AluResult where
  res := res
  flags := { s := res.getLsbD 7, z := decide (res = 0), ac := ac, p := parityEven res, cy := cy }

/-- `Add8(a, b, cin)` (R129): AC by R124, CY by R123. -/
def add8 (a b : Byte) (cin : Bool) : AluResult :=
  let r := a.toNat + b.toNat + bit cin
  resultWith (BitVec.ofNat 8 r) (decide (lowNibble a + lowNibble b + bit cin > 0x0F)) (decide (r > 0xFF))

/-- `Sub8(a, b, cin)` (R130): AC by R126, CY, the borrow, by R123. -/
def sub8 (a b : Byte) (cin : Bool) : AluResult :=
  let r : Int := (a.toNat : Int) - (b.toNat : Int) - (bit cin : Int)
  resultWith (BitVec.ofInt 8 r) (decide (lowNibble a < lowNibble b + bit cin)) (decide (r < 0))

/-- `And8(a, b)` (R131): AC is bit 3 of `a | b`, CY = 0 (R127). -/
def and8 (a b : Byte) : AluResult := resultWith (a &&& b) ((a ||| b).getLsbD 3) false

/-- `Xor8(a, b)` (R132): AC = CY = 0 (R127). -/
def xor8 (a b : Byte) : AluResult := resultWith (a ^^^ b) false false

/-- `Or8(a, b)` (R133): AC = CY = 0 (R127). -/
def or8 (a b : Byte) : AluResult := resultWith (a ||| b) false false

/-- `Inc8(v)` (R134): AC by R125; CY is kept, as the `cy` given. -/
def inc8 (v : Byte) (cy : Bool) : AluResult :=
  resultWith (BitVec.ofNat 8 (v.toNat + 1)) (decide (lowNibble v + 1 > 0x0F)) cy

/-- `Dec8(v)` (R135): AC by R125; CY is kept, as the `cy` given. -/
def dec8 (v : Byte) (cy : Bool) : AluResult :=
  resultWith (BitVec.ofInt 8 ((v.toNat : Int) - 1)) (decide (lowNibble v = 0)) cy

/-- The decimal adjustment of `a` (44_rotate_special.md R224). Both tests read the `a` it is given, and CY is never
cleared: an old CY of 1 is itself a ground for the upper correction. -/
def daa8 (a : Byte) (f : Flags) : AluResult :=
  let low := decide (lowNibble a > 9) || f.ac
  let high := decide (a.toNat > 0x99) || f.cy
  let corr := (if low then 0x06 else 0) + (if high then 0x60 else 0)
  resultWith (BitVec.ofNat 8 (a.toNat + corr)) low high

end Sys2Proof.Machine
end

