-- ==== Sys2Proof/Syntax.lean ====
section
/-! DEFINITION. The instructions: one constructor of `Instr` for each row of spec/opcode_table.json, that is, for each
opcode byte (30_encoding.md R101), and the operand fields an opcode byte is made of (R93 to R96, R99). -/

namespace Sys2Proof

/-- The seven general registers (10_state.md R21). -/
inductive Reg where
  | b | c | d | e | h | l | a
deriving DecidableEq, Repr

/-- An 8-bit operand, as the fields ddd and sss name it: a register, or M, the memory byte at HL (R94). -/
inductive Operand8 where
  | reg (r : Reg)
  | m
deriving DecidableEq, Repr

/-- A register pair of LXI, INX, DCX and DAD (R95, first table). -/
inductive RegPair where
  | bc | de | hl | sp
deriving DecidableEq, Repr

/-- A register pair of PUSH and POP (R95, second table). -/
inductive StackPair where
  | bc | de | hl | psw
deriving DecidableEq, Repr

/-- A register pair of STAX and LDAX (R95, third table). -/
inductive IndexPair where
  | bc | de
deriving DecidableEq, Repr

/-- A condition, as the field ccc names it (R96). -/
inductive Cond where
  | nz | z | nc | c | po | pe | p | m
deriving DecidableEq, Repr

/-- An ALU operation, as bits 5:3 of the opcode name it (R99). -/
inductive AluOp where
  | add | adc | sub | sbb | ana | xra | ora | cmp
deriving DecidableEq, Repr

/-- The three instruction formats (R91): the opcode alone, with d8 or a port, with d16 or a16. -/
inductive Format where
  | f1 | f2 | f3
deriving DecidableEq, Repr

/-- The immediate an instruction carries after its opcode byte (R91). -/
inductive Immediate where
  | none
  | d8 (v : Byte)
  | d16 (w : Word)
deriving DecidableEq, Repr

/-- The instructions: those that carry an operand and then the others, each in the order of the opcode map (R101). `v` is
d8 or the port, `w` is d16 or a16. The twelve
undocumented opcode bytes have constructors of their own: the NOP aliases (R313), 0xCB (R315), 0xD9 (R316) and
0xDD, 0xED, 0xFD (R317). -/
inductive Instr where
  | lxiB (w : Word)          -- 0x01 LXI B,d16, R145
  | mviB (v : Byte)          -- 0x06 MVI B,d8, R143
  | mviC (v : Byte)          -- 0x0E MVI C,d8, R143
  | lxiD (w : Word)          -- 0x11 LXI D,d16, R145
  | mviD (v : Byte)          -- 0x16 MVI D,d8, R143
  | mviE (v : Byte)          -- 0x1E MVI E,d8, R143
  | lxiH (w : Word)          -- 0x21 LXI H,d16, R145
  | shld (w : Word)          -- 0x22 SHLD a16, R148
  | mviH (v : Byte)          -- 0x26 MVI H,d8, R143
  | lhld (w : Word)          -- 0x2A LHLD a16, R149
  | mviL (v : Byte)          -- 0x2E MVI L,d8, R143
  | lxiSp (w : Word)         -- 0x31 LXI SP,d16, R145
  | sta (w : Word)           -- 0x32 STA a16, R150
  | mviM (v : Byte)          -- 0x36 MVI M,d8, R144
  | lda (w : Word)           -- 0x3A LDA a16, R151
  | mviA (v : Byte)          -- 0x3E MVI A,d8, R143
  | jnz (w : Word)           -- 0xC2 JNZ a16, R243
  | jmp (w : Word)           -- 0xC3 JMP a16, R241
  | cnz (w : Word)           -- 0xC4 CNZ a16, R253
  | adi (v : Byte)           -- 0xC6 ADI d8, R186
  | jz (w : Word)            -- 0xCA JZ a16, R244
  | jmpAlias (w : Word)      -- 0xCB JMP* a16, R315
  | cz (w : Word)            -- 0xCC CZ a16, R254
  | call (w : Word)          -- 0xCD CALL a16, R251
  | aci (v : Byte)           -- 0xCE ACI d8, R187
  | jnc (w : Word)           -- 0xD2 JNC a16, R245
  | outPort (v : Byte)       -- 0xD3 OUT d8, R311
  | cnc (w : Word)           -- 0xD4 CNC a16, R255
  | sui (v : Byte)           -- 0xD6 SUI d8, R188
  | jc (w : Word)            -- 0xDA JC a16, R246
  | inPort (v : Byte)        -- 0xDB IN d8, R310
  | cc (w : Word)            -- 0xDC CC a16, R256
  | callAliasDD (w : Word)   -- 0xDD CALL* a16, R317
  | sbi (v : Byte)           -- 0xDE SBI d8, R189
  | jpo (w : Word)           -- 0xE2 JPO a16, R247
  | cpo (w : Word)           -- 0xE4 CPO a16, R257
  | ani (v : Byte)           -- 0xE6 ANI d8, R190
  | jpe (w : Word)           -- 0xEA JPE a16, R248
  | cpe (w : Word)           -- 0xEC CPE a16, R258
  | callAliasED (w : Word)   -- 0xED CALL* a16, R317
  | xri (v : Byte)           -- 0xEE XRI d8, R191
  | jp (w : Word)            -- 0xF2 JP a16, R249
  | cp (w : Word)            -- 0xF4 CP a16, R259
  | ori (v : Byte)           -- 0xF6 ORI d8, R192
  | jm (w : Word)            -- 0xFA JM a16, R250
  | cm (w : Word)            -- 0xFC CM a16, R260
  | callAliasFD (w : Word)   -- 0xFD CALL* a16, R317
  | cpi (v : Byte)           -- 0xFE CPI d8, R193
  | nop                      -- 0x00 NOP, R312
  | staxB                    -- 0x02 STAX B, R146
  | inxB                     -- 0x03 INX B, R204
  | inrB                     -- 0x04 INR B, R200
  | dcrB                     -- 0x05 DCR B, R202
  | rlc                      -- 0x07 RLC, R220
  | nopAlias08               -- 0x08 NOP*, R313
  | dadB                     -- 0x09 DAD B, R206
  | ldaxB                    -- 0x0A LDAX B, R147
  | dcxB                     -- 0x0B DCX B, R205
  | inrC                     -- 0x0C INR C, R200
  | dcrC                     -- 0x0D DCR C, R202
  | rrc                      -- 0x0F RRC, R221
  | nopAlias10               -- 0x10 NOP*, R313
  | staxD                    -- 0x12 STAX D, R146
  | inxD                     -- 0x13 INX D, R204
  | inrD                     -- 0x14 INR D, R200
  | dcrD                     -- 0x15 DCR D, R202
  | ral                      -- 0x17 RAL, R222
  | nopAlias18               -- 0x18 NOP*, R313
  | dadD                     -- 0x19 DAD D, R206
  | ldaxD                    -- 0x1A LDAX D, R147
  | dcxD                     -- 0x1B DCX D, R205
  | inrE                     -- 0x1C INR E, R200
  | dcrE                     -- 0x1D DCR E, R202
  | rar                      -- 0x1F RAR, R223
  | nopAlias20               -- 0x20 NOP*, R313
  | inxH                     -- 0x23 INX H, R204
  | inrH                     -- 0x24 INR H, R200
  | dcrH                     -- 0x25 DCR H, R202
  | daa                      -- 0x27 DAA, R224
  | nopAlias28               -- 0x28 NOP*, R313
  | dadH                     -- 0x29 DAD H, R206
  | dcxH                     -- 0x2B DCX H, R205
  | inrL                     -- 0x2C INR L, R200
  | dcrL                     -- 0x2D DCR L, R202
  | cma                      -- 0x2F CMA, R225
  | nopAlias30               -- 0x30 NOP*, R313
  | inxSp                    -- 0x33 INX SP, R204
  | inrM                     -- 0x34 INR M, R201
  | dcrM                     -- 0x35 DCR M, R203
  | stc                      -- 0x37 STC, R226
  | nopAlias38               -- 0x38 NOP*, R313
  | dadSp                    -- 0x39 DAD SP, R206
  | dcxSp                    -- 0x3B DCX SP, R205
  | inrA                     -- 0x3C INR A, R200
  | dcrA                     -- 0x3D DCR A, R202
  | cmc                      -- 0x3F CMC, R227
  | movBB                    -- 0x40 MOV B,B, R140
  | movBC                    -- 0x41 MOV B,C, R140
  | movBD                    -- 0x42 MOV B,D, R140
  | movBE                    -- 0x43 MOV B,E, R140
  | movBH                    -- 0x44 MOV B,H, R140
  | movBL                    -- 0x45 MOV B,L, R140
  | movBM                    -- 0x46 MOV B,M, R141
  | movBA                    -- 0x47 MOV B,A, R140
  | movCB                    -- 0x48 MOV C,B, R140
  | movCC                    -- 0x49 MOV C,C, R140
  | movCD                    -- 0x4A MOV C,D, R140
  | movCE                    -- 0x4B MOV C,E, R140
  | movCH                    -- 0x4C MOV C,H, R140
  | movCL                    -- 0x4D MOV C,L, R140
  | movCM                    -- 0x4E MOV C,M, R141
  | movCA                    -- 0x4F MOV C,A, R140
  | movDB                    -- 0x50 MOV D,B, R140
  | movDC                    -- 0x51 MOV D,C, R140
  | movDD                    -- 0x52 MOV D,D, R140
  | movDE                    -- 0x53 MOV D,E, R140
  | movDH                    -- 0x54 MOV D,H, R140
  | movDL                    -- 0x55 MOV D,L, R140
  | movDM                    -- 0x56 MOV D,M, R141
  | movDA                    -- 0x57 MOV D,A, R140
  | movEB                    -- 0x58 MOV E,B, R140
  | movEC                    -- 0x59 MOV E,C, R140
  | movED                    -- 0x5A MOV E,D, R140
  | movEE                    -- 0x5B MOV E,E, R140
  | movEH                    -- 0x5C MOV E,H, R140
  | movEL                    -- 0x5D MOV E,L, R140
  | movEM                    -- 0x5E MOV E,M, R141
  | movEA                    -- 0x5F MOV E,A, R140
  | movHB                    -- 0x60 MOV H,B, R140
  | movHC                    -- 0x61 MOV H,C, R140
  | movHD                    -- 0x62 MOV H,D, R140
  | movHE                    -- 0x63 MOV H,E, R140
  | movHH                    -- 0x64 MOV H,H, R140
  | movHL                    -- 0x65 MOV H,L, R140
  | movHM                    -- 0x66 MOV H,M, R141
  | movHA                    -- 0x67 MOV H,A, R140
  | movLB                    -- 0x68 MOV L,B, R140
  | movLC                    -- 0x69 MOV L,C, R140
  | movLD                    -- 0x6A MOV L,D, R140
  | movLE                    -- 0x6B MOV L,E, R140
  | movLH                    -- 0x6C MOV L,H, R140
  | movLL                    -- 0x6D MOV L,L, R140
  | movLM                    -- 0x6E MOV L,M, R141
  | movLA                    -- 0x6F MOV L,A, R140
  | movMB                    -- 0x70 MOV M,B, R142
  | movMC                    -- 0x71 MOV M,C, R142
  | movMD                    -- 0x72 MOV M,D, R142
  | movME                    -- 0x73 MOV M,E, R142
  | movMH                    -- 0x74 MOV M,H, R142
  | movML                    -- 0x75 MOV M,L, R142
  | hlt                      -- 0x76 HLT, R314
  | movMA                    -- 0x77 MOV M,A, R142
  | movAB                    -- 0x78 MOV A,B, R140
  | movAC                    -- 0x79 MOV A,C, R140
  | movAD                    -- 0x7A MOV A,D, R140
  | movAE                    -- 0x7B MOV A,E, R140
  | movAH                    -- 0x7C MOV A,H, R140
  | movAL                    -- 0x7D MOV A,L, R140
  | movAM                    -- 0x7E MOV A,M, R141
  | movAA                    -- 0x7F MOV A,A, R140
  | addB                     -- 0x80 ADD B, R170
  | addC                     -- 0x81 ADD C, R170
  | addD                     -- 0x82 ADD D, R170
  | addE                     -- 0x83 ADD E, R170
  | addH                     -- 0x84 ADD H, R170
  | addL                     -- 0x85 ADD L, R170
  | addM                     -- 0x86 ADD M, R171
  | addA                     -- 0x87 ADD A, R170
  | adcB                     -- 0x88 ADC B, R172
  | adcC                     -- 0x89 ADC C, R172
  | adcD                     -- 0x8A ADC D, R172
  | adcE                     -- 0x8B ADC E, R172
  | adcH                     -- 0x8C ADC H, R172
  | adcL                     -- 0x8D ADC L, R172
  | adcM                     -- 0x8E ADC M, R173
  | adcA                     -- 0x8F ADC A, R172
  | subB                     -- 0x90 SUB B, R174
  | subC                     -- 0x91 SUB C, R174
  | subD                     -- 0x92 SUB D, R174
  | subE                     -- 0x93 SUB E, R174
  | subH                     -- 0x94 SUB H, R174
  | subL                     -- 0x95 SUB L, R174
  | subM                     -- 0x96 SUB M, R175
  | subA                     -- 0x97 SUB A, R174
  | sbbB                     -- 0x98 SBB B, R176
  | sbbC                     -- 0x99 SBB C, R176
  | sbbD                     -- 0x9A SBB D, R176
  | sbbE                     -- 0x9B SBB E, R176
  | sbbH                     -- 0x9C SBB H, R176
  | sbbL                     -- 0x9D SBB L, R176
  | sbbM                     -- 0x9E SBB M, R177
  | sbbA                     -- 0x9F SBB A, R176
  | anaB                     -- 0xA0 ANA B, R178
  | anaC                     -- 0xA1 ANA C, R178
  | anaD                     -- 0xA2 ANA D, R178
  | anaE                     -- 0xA3 ANA E, R178
  | anaH                     -- 0xA4 ANA H, R178
  | anaL                     -- 0xA5 ANA L, R178
  | anaM                     -- 0xA6 ANA M, R179
  | anaA                     -- 0xA7 ANA A, R178
  | xraB                     -- 0xA8 XRA B, R180
  | xraC                     -- 0xA9 XRA C, R180
  | xraD                     -- 0xAA XRA D, R180
  | xraE                     -- 0xAB XRA E, R180
  | xraH                     -- 0xAC XRA H, R180
  | xraL                     -- 0xAD XRA L, R180
  | xraM                     -- 0xAE XRA M, R181
  | xraA                     -- 0xAF XRA A, R180
  | oraB                     -- 0xB0 ORA B, R182
  | oraC                     -- 0xB1 ORA C, R182
  | oraD                     -- 0xB2 ORA D, R182
  | oraE                     -- 0xB3 ORA E, R182
  | oraH                     -- 0xB4 ORA H, R182
  | oraL                     -- 0xB5 ORA L, R182
  | oraM                     -- 0xB6 ORA M, R183
  | oraA                     -- 0xB7 ORA A, R182
  | cmpB                     -- 0xB8 CMP B, R184
  | cmpC                     -- 0xB9 CMP C, R184
  | cmpD                     -- 0xBA CMP D, R184
  | cmpE                     -- 0xBB CMP E, R184
  | cmpH                     -- 0xBC CMP H, R184
  | cmpL                     -- 0xBD CMP L, R184
  | cmpM                     -- 0xBE CMP M, R185
  | cmpA                     -- 0xBF CMP A, R184
  | rnz                      -- 0xC0 RNZ, R263
  | popB                     -- 0xC1 POP B, R294
  | pushB                    -- 0xC5 PUSH B, R292
  | rst0                     -- 0xC7 RST 0, R272
  | rz                       -- 0xC8 RZ, R264
  | ret                      -- 0xC9 RET, R261
  | rst1                     -- 0xCF RST 1, R273
  | rnc                      -- 0xD0 RNC, R265
  | popD                     -- 0xD1 POP D, R294
  | pushD                    -- 0xD5 PUSH D, R292
  | rst2                     -- 0xD7 RST 2, R274
  | rc                       -- 0xD8 RC, R266
  | retAlias                 -- 0xD9 RET*, R316
  | rst3                     -- 0xDF RST 3, R275
  | rpo                      -- 0xE0 RPO, R267
  | popH                     -- 0xE1 POP H, R294
  | xthl                     -- 0xE3 XTHL, R297
  | pushH                    -- 0xE5 PUSH H, R292
  | rst4                     -- 0xE7 RST 4, R276
  | rpe                      -- 0xE8 RPE, R268
  | pchl                     -- 0xE9 PCHL, R280
  | xchg                     -- 0xEB XCHG, R296
  | rst5                     -- 0xEF RST 5, R277
  | rp                       -- 0xF0 RP, R269
  | popPsw                   -- 0xF1 POP PSW, R295
  | di                       -- 0xF3 DI, R319
  | pushPsw                  -- 0xF5 PUSH PSW, R293
  | rst6                     -- 0xF7 RST 6, R278
  | rm                       -- 0xF8 RM, R270
  | sphl                     -- 0xF9 SPHL, R298
  | ei                       -- 0xFB EI, R318
  | rst7                     -- 0xFF RST 7, R279
deriving DecidableEq, Repr

/-- The immediate operand of an instruction: the 18 of format F2 carry d8 or a port, the 30 of format F3 carry d16 or
a16, the other 208 nothing (R91, R92). -/
def Instr.immediate : Instr → Immediate
  | .mviB v => .d8 v
  | .mviC v => .d8 v
  | .mviD v => .d8 v
  | .mviE v => .d8 v
  | .mviH v => .d8 v
  | .mviL v => .d8 v
  | .mviM v => .d8 v
  | .mviA v => .d8 v
  | .adi v => .d8 v
  | .aci v => .d8 v
  | .outPort v => .d8 v
  | .sui v => .d8 v
  | .inPort v => .d8 v
  | .sbi v => .d8 v
  | .ani v => .d8 v
  | .xri v => .d8 v
  | .ori v => .d8 v
  | .cpi v => .d8 v
  | .lxiB w => .d16 w
  | .lxiD w => .d16 w
  | .lxiH w => .d16 w
  | .shld w => .d16 w
  | .lhld w => .d16 w
  | .lxiSp w => .d16 w
  | .sta w => .d16 w
  | .lda w => .d16 w
  | .jnz w => .d16 w
  | .jmp w => .d16 w
  | .cnz w => .d16 w
  | .jz w => .d16 w
  | .jmpAlias w => .d16 w
  | .cz w => .d16 w
  | .call w => .d16 w
  | .jnc w => .d16 w
  | .cnc w => .d16 w
  | .jc w => .d16 w
  | .cc w => .d16 w
  | .callAliasDD w => .d16 w
  | .jpo w => .d16 w
  | .cpo w => .d16 w
  | .jpe w => .d16 w
  | .cpe w => .d16 w
  | .callAliasED w => .d16 w
  | .jp w => .d16 w
  | .cp w => .d16 w
  | .jm w => .d16 w
  | .cm w => .d16 w
  | .callAliasFD w => .d16 w
  | .nop | .staxB | .inxB | .inrB | .dcrB | .rlc | .nopAlias08 | .dadB | .ldaxB | .dcxB | .inrC | .dcrC | .rrc
  | .nopAlias10 | .staxD | .inxD | .inrD | .dcrD | .ral | .nopAlias18 | .dadD | .ldaxD | .dcxD | .inrE | .dcrE
  | .rar | .nopAlias20 | .inxH | .inrH | .dcrH | .daa | .nopAlias28 | .dadH | .dcxH | .inrL | .dcrL | .cma
  | .nopAlias30 | .inxSp | .inrM | .dcrM | .stc | .nopAlias38 | .dadSp | .dcxSp | .inrA | .dcrA | .cmc | .movBB
  | .movBC | .movBD | .movBE | .movBH | .movBL | .movBM | .movBA | .movCB | .movCC | .movCD | .movCE | .movCH
  | .movCL | .movCM | .movCA | .movDB | .movDC | .movDD | .movDE | .movDH | .movDL | .movDM | .movDA | .movEB
  | .movEC | .movED | .movEE | .movEH | .movEL | .movEM | .movEA | .movHB | .movHC | .movHD | .movHE | .movHH
  | .movHL | .movHM | .movHA | .movLB | .movLC | .movLD | .movLE | .movLH | .movLL | .movLM | .movLA | .movMB
  | .movMC | .movMD | .movME | .movMH | .movML | .hlt | .movMA | .movAB | .movAC | .movAD | .movAE | .movAH
  | .movAL | .movAM | .movAA | .addB | .addC | .addD | .addE | .addH | .addL | .addM | .addA | .adcB | .adcC
  | .adcD | .adcE | .adcH | .adcL | .adcM | .adcA | .subB | .subC | .subD | .subE | .subH | .subL | .subM
  | .subA | .sbbB | .sbbC | .sbbD | .sbbE | .sbbH | .sbbL | .sbbM | .sbbA | .anaB | .anaC | .anaD | .anaE
  | .anaH | .anaL | .anaM | .anaA | .xraB | .xraC | .xraD | .xraE | .xraH | .xraL | .xraM | .xraA | .oraB
  | .oraC | .oraD | .oraE | .oraH | .oraL | .oraM | .oraA | .cmpB | .cmpC | .cmpD | .cmpE | .cmpH | .cmpL
  | .cmpM | .cmpA | .rnz | .popB | .pushB | .rst0 | .rz | .ret | .rst1 | .rnc | .popD | .pushD | .rst2 | .rc
  | .retAlias | .rst3 | .rpo | .popH | .xthl | .pushH | .rst4 | .rpe | .pchl | .xchg | .rst5 | .rp | .popPsw
  | .di | .pushPsw | .rst6 | .rm | .sphl | .ei | .rst7 => .none

/-- The format the row of spec/opcode_table.json gives an instruction (R91). -/
def Instr.format : Instr → Format
  | .mviB _ | .mviC _ | .mviD _ | .mviE _ | .mviH _ | .mviL _ | .mviM _ | .mviA _ | .adi _ | .aci _
  | .outPort _ | .sui _ | .inPort _ | .sbi _ | .ani _ | .xri _ | .ori _ | .cpi _ => .f2
  | .lxiB _ | .lxiD _ | .lxiH _ | .shld _ | .lhld _ | .lxiSp _ | .sta _ | .lda _ | .jnz _ | .jmp _ | .cnz _
  | .jz _ | .jmpAlias _ | .cz _ | .call _ | .jnc _ | .cnc _ | .jc _ | .cc _ | .callAliasDD _ | .jpo _ | .cpo _
  | .jpe _ | .cpe _ | .callAliasED _ | .jp _ | .cp _ | .jm _ | .cm _ | .callAliasFD _ => .f3
  | .nop | .staxB | .inxB | .inrB | .dcrB | .rlc | .nopAlias08 | .dadB | .ldaxB | .dcxB | .inrC | .dcrC | .rrc
  | .nopAlias10 | .staxD | .inxD | .inrD | .dcrD | .ral | .nopAlias18 | .dadD | .ldaxD | .dcxD | .inrE | .dcrE
  | .rar | .nopAlias20 | .inxH | .inrH | .dcrH | .daa | .nopAlias28 | .dadH | .dcxH | .inrL | .dcrL | .cma
  | .nopAlias30 | .inxSp | .inrM | .dcrM | .stc | .nopAlias38 | .dadSp | .dcxSp | .inrA | .dcrA | .cmc | .movBB
  | .movBC | .movBD | .movBE | .movBH | .movBL | .movBM | .movBA | .movCB | .movCC | .movCD | .movCE | .movCH
  | .movCL | .movCM | .movCA | .movDB | .movDC | .movDD | .movDE | .movDH | .movDL | .movDM | .movDA | .movEB
  | .movEC | .movED | .movEE | .movEH | .movEL | .movEM | .movEA | .movHB | .movHC | .movHD | .movHE | .movHH
  | .movHL | .movHM | .movHA | .movLB | .movLC | .movLD | .movLE | .movLH | .movLL | .movLM | .movLA | .movMB
  | .movMC | .movMD | .movME | .movMH | .movML | .hlt | .movMA | .movAB | .movAC | .movAD | .movAE | .movAH
  | .movAL | .movAM | .movAA | .addB | .addC | .addD | .addE | .addH | .addL | .addM | .addA | .adcB | .adcC
  | .adcD | .adcE | .adcH | .adcL | .adcM | .adcA | .subB | .subC | .subD | .subE | .subH | .subL | .subM
  | .subA | .sbbB | .sbbC | .sbbD | .sbbE | .sbbH | .sbbL | .sbbM | .sbbA | .anaB | .anaC | .anaD | .anaE
  | .anaH | .anaL | .anaM | .anaA | .xraB | .xraC | .xraD | .xraE | .xraH | .xraL | .xraM | .xraA | .oraB
  | .oraC | .oraD | .oraE | .oraH | .oraL | .oraM | .oraA | .cmpB | .cmpC | .cmpD | .cmpE | .cmpH | .cmpL
  | .cmpM | .cmpA | .rnz | .popB | .pushB | .rst0 | .rz | .ret | .rst1 | .rnc | .popD | .pushD | .rst2 | .rc
  | .retAlias | .rst3 | .rpo | .popH | .xthl | .pushH | .rst4 | .rpe | .pchl | .xchg | .rst5 | .rp | .popPsw
  | .di | .pushPsw | .rst6 | .rm | .sphl | .ei | .rst7 => .f1

/-- The number of bytes of a format (R91). -/
def Format.length : Format → Nat
  | .f1 => 1
  | .f2 => 2
  | .f3 => 3

/-- The static byte-length of an instruction (R92). -/
def Instr.length (i : Instr) : Nat := i.format.length

end Sys2Proof
end

