-- ==== Sys2Proof/WellFormed.lean ====
section
/-! DEFINITION. When an instruction is well formed. An assembler writes "immediates and addresses ... as numbers"
(30_encoding.md R104), and a number need not fit, or the instruction may take none: the checks are on an operand as
it is written. A term of `Instr` carries its operand at the width its format gives it, so each passes them (log 12). -/

namespace Sys2Proof

/-- An operand as it is written: absent, or a number meant for one byte or for two (R104). -/
inductive WrittenOperand where
  | absent
  | byte (n : Nat)
  | word (n : Nat)
deriving DecidableEq, Repr

/-- The two checks on a written operand: it is of the kind the format takes (R91), and its number fits in 8 or 16 bits
(R6, R8). -/
def Format.admits : Format → WrittenOperand → Bool
  | .f1, .absent => true
  | .f2, .byte n => decide (n < 2 ^ 8)
  | .f3, .word n => decide (n < 2 ^ 16)
  | .f1, .byte _ | .f1, .word _ | .f2, .absent | .f2, .word _ | .f3, .absent | .f3, .byte _ => false

/-- An instruction's immediate, as it would be written. -/
def Immediate.written : Immediate → WrittenOperand
  | .none => .absent
  | .d8 v => .byte v.toNat
  | .d16 w => .word w.toNat

/-- An instruction is well formed when its format admits the operand it carries. -/
def Instr.wellFormed (i : Instr) : Bool := i.format.admits i.immediate.written

end Sys2Proof
end

