-- ==== Sys2Proof/Decode.lean ====
section
/-! DEFINITION. Decoding, from the fields of the opcode byte (30_encoding.md R91 to R100), and encoding, from the opcode
map (R101). The decoder is written from the fields and the encoder from the map, so that their agreement says
something of both. -/

namespace Sys2Proof

/-! ## Byte order and bit fields -/

/-- `cat(hi, lo) = hi * 256 + lo` (00_scope.md R8). -/
def cat (hi lo : Byte) : Word := BitVec.ofNat 16 (hi.toNat * 256 + lo.toNat)

/-- `v[15:8]` (R7). -/
def hiByte (v : Word) : Byte := BitVec.ofNat 8 (v.toNat / 256)

/-- `v[7:0]` (R7). -/
def loByte (v : Word) : Byte := BitVec.ofNat 8 v.toNat

/-- Bits 7:6 of the opcode, the group (R93). -/
def groupField (op : Byte) : BitVec 2 := op.extractLsb' 6 2

/-- Bits 5:3 of the opcode: ddd, alu, ccc or nnn (R93). -/
def midField (op : Byte) : BitVec 3 := op.extractLsb' 3 3

/-- Bits 2:0 of the opcode: sss, or the column within a group (R93, R100). -/
def lowField (op : Byte) : BitVec 3 := op.extractLsb' 0 3

/-! ## Lengths -/

/-- The opcodes of length 2 (R92): MVI, ADI to CPI, OUT, IN. -/
def twoByteOpcodes : List Byte :=
  [0x06, 0x0E, 0x16, 0x1E, 0x26, 0x2E, 0x36, 0x3E] ++
  [0xC6, 0xCE, 0xD6, 0xDE, 0xE6, 0xEE, 0xF6, 0xFE] ++ [0xD3, 0xDB]

/-- The opcodes of length 3 but for the aliases (R92): LXI, SHLD, LHLD, STA, LDA, JMP, Jcc, CALL, Ccc. -/
def threeByteOpcodes : List Byte :=
  [0x01, 0x11, 0x21, 0x31] ++ [0x22, 0x2A, 0x32, 0x3A] ++
  [0xC3] ++ [0xC2, 0xCA, 0xD2, 0xDA, 0xE2, 0xEA, 0xF2, 0xFA] ++
  [0xCD] ++ [0xC4, 0xCC, 0xD4, 0xDC, 0xE4, 0xEC, 0xF4, 0xFC]

/-- The alias opcodes of JMP and CALL, of length 3 as those are (R92, R102). -/
def aliasThreeByteOpcodes : List Byte := [0xCB, 0xDD, 0xED, 0xFD]

/-- What `UNDOC_POLICY` selects between, for the five opcodes it governs (R317). -/
def UndocPolicy.select {α : Type} (p : UndocPolicy) (documented nop : α) : α :=
  match p with
  | .documentedForm => documented
  | .nopForm => nop

/-- The format of the instruction an opcode byte begins (R92, R103), under a value of `UNDOC_POLICY`. -/
def formatUnder (p : UndocPolicy) (op : Byte) : Format :=
  if twoByteOpcodes.contains op then .f2
  else if threeByteOpcodes.contains op then .f3
  else if aliasThreeByteOpcodes.contains op then p.select .f3 .f1
  else .f1

/-- The format of the instruction an opcode byte begins, under the policy taken. -/
def formatOf (op : Byte) : Format := formatUnder Config.undocPolicy op

/-! ## Fields -/

/-- The register index of ddd and sss: B=0, C=1, D=2, E=3, H=4, L=5, M=6, A=7 (R94). -/
def operand8Of (x : BitVec 3) : Operand8 :=
  match x with
  | 0 => .reg .b
  | 1 => .reg .c
  | 2 => .reg .d
  | 3 => .reg .e
  | 4 => .reg .h
  | 5 => .reg .l
  | 6 => .m
  | 7 => .reg .a

/-- The condition of ccc (R96). -/
def condOf (x : BitVec 3) : Cond :=
  match x with
  | 0 => .nz
  | 1 => .z
  | 2 => .nc
  | 3 => .c
  | 4 => .po
  | 5 => .pe
  | 6 => .p
  | 7 => .m

/-- The ALU operation of bits 5:3 (R99). -/
def aluOpOf (x : BitVec 3) : AluOp :=
  match x with
  | 0 => .add
  | 1 => .adc
  | 2 => .sub
  | 3 => .sbb
  | 4 => .ana
  | 5 => .xra
  | 6 => .ora
  | 7 => .cmp

/-! ## The instruction a form and its operands name -/

/-- MOV ddd,sss; the position of MOV M,M is HLT (R100). -/
def movInstr : Operand8 → Operand8 → Instr
  | .reg .b, .reg .b => .movBB
  | .reg .b, .reg .c => .movBC
  | .reg .b, .reg .d => .movBD
  | .reg .b, .reg .e => .movBE
  | .reg .b, .reg .h => .movBH
  | .reg .b, .reg .l => .movBL
  | .reg .b, .m => .movBM
  | .reg .b, .reg .a => .movBA
  | .reg .c, .reg .b => .movCB
  | .reg .c, .reg .c => .movCC
  | .reg .c, .reg .d => .movCD
  | .reg .c, .reg .e => .movCE
  | .reg .c, .reg .h => .movCH
  | .reg .c, .reg .l => .movCL
  | .reg .c, .m => .movCM
  | .reg .c, .reg .a => .movCA
  | .reg .d, .reg .b => .movDB
  | .reg .d, .reg .c => .movDC
  | .reg .d, .reg .d => .movDD
  | .reg .d, .reg .e => .movDE
  | .reg .d, .reg .h => .movDH
  | .reg .d, .reg .l => .movDL
  | .reg .d, .m => .movDM
  | .reg .d, .reg .a => .movDA
  | .reg .e, .reg .b => .movEB
  | .reg .e, .reg .c => .movEC
  | .reg .e, .reg .d => .movED
  | .reg .e, .reg .e => .movEE
  | .reg .e, .reg .h => .movEH
  | .reg .e, .reg .l => .movEL
  | .reg .e, .m => .movEM
  | .reg .e, .reg .a => .movEA
  | .reg .h, .reg .b => .movHB
  | .reg .h, .reg .c => .movHC
  | .reg .h, .reg .d => .movHD
  | .reg .h, .reg .e => .movHE
  | .reg .h, .reg .h => .movHH
  | .reg .h, .reg .l => .movHL
  | .reg .h, .m => .movHM
  | .reg .h, .reg .a => .movHA
  | .reg .l, .reg .b => .movLB
  | .reg .l, .reg .c => .movLC
  | .reg .l, .reg .d => .movLD
  | .reg .l, .reg .e => .movLE
  | .reg .l, .reg .h => .movLH
  | .reg .l, .reg .l => .movLL
  | .reg .l, .m => .movLM
  | .reg .l, .reg .a => .movLA
  | .m, .reg .b => .movMB
  | .m, .reg .c => .movMC
  | .m, .reg .d => .movMD
  | .m, .reg .e => .movME
  | .m, .reg .h => .movMH
  | .m, .reg .l => .movML
  | .m, .m => .hlt
  | .m, .reg .a => .movMA
  | .reg .a, .reg .b => .movAB
  | .reg .a, .reg .c => .movAC
  | .reg .a, .reg .d => .movAD
  | .reg .a, .reg .e => .movAE
  | .reg .a, .reg .h => .movAH
  | .reg .a, .reg .l => .movAL
  | .reg .a, .m => .movAM
  | .reg .a, .reg .a => .movAA

/-- The register and memory form of an ALU operation (R99). -/
def aluInstr : AluOp → Operand8 → Instr
  | .add, .reg .b => .addB
  | .add, .reg .c => .addC
  | .add, .reg .d => .addD
  | .add, .reg .e => .addE
  | .add, .reg .h => .addH
  | .add, .reg .l => .addL
  | .add, .m => .addM
  | .add, .reg .a => .addA
  | .adc, .reg .b => .adcB
  | .adc, .reg .c => .adcC
  | .adc, .reg .d => .adcD
  | .adc, .reg .e => .adcE
  | .adc, .reg .h => .adcH
  | .adc, .reg .l => .adcL
  | .adc, .m => .adcM
  | .adc, .reg .a => .adcA
  | .sub, .reg .b => .subB
  | .sub, .reg .c => .subC
  | .sub, .reg .d => .subD
  | .sub, .reg .e => .subE
  | .sub, .reg .h => .subH
  | .sub, .reg .l => .subL
  | .sub, .m => .subM
  | .sub, .reg .a => .subA
  | .sbb, .reg .b => .sbbB
  | .sbb, .reg .c => .sbbC
  | .sbb, .reg .d => .sbbD
  | .sbb, .reg .e => .sbbE
  | .sbb, .reg .h => .sbbH
  | .sbb, .reg .l => .sbbL
  | .sbb, .m => .sbbM
  | .sbb, .reg .a => .sbbA
  | .ana, .reg .b => .anaB
  | .ana, .reg .c => .anaC
  | .ana, .reg .d => .anaD
  | .ana, .reg .e => .anaE
  | .ana, .reg .h => .anaH
  | .ana, .reg .l => .anaL
  | .ana, .m => .anaM
  | .ana, .reg .a => .anaA
  | .xra, .reg .b => .xraB
  | .xra, .reg .c => .xraC
  | .xra, .reg .d => .xraD
  | .xra, .reg .e => .xraE
  | .xra, .reg .h => .xraH
  | .xra, .reg .l => .xraL
  | .xra, .m => .xraM
  | .xra, .reg .a => .xraA
  | .ora, .reg .b => .oraB
  | .ora, .reg .c => .oraC
  | .ora, .reg .d => .oraD
  | .ora, .reg .e => .oraE
  | .ora, .reg .h => .oraH
  | .ora, .reg .l => .oraL
  | .ora, .m => .oraM
  | .ora, .reg .a => .oraA
  | .cmp, .reg .b => .cmpB
  | .cmp, .reg .c => .cmpC
  | .cmp, .reg .d => .cmpD
  | .cmp, .reg .e => .cmpE
  | .cmp, .reg .h => .cmpH
  | .cmp, .reg .l => .cmpL
  | .cmp, .m => .cmpM
  | .cmp, .reg .a => .cmpA

/-- The immediate form of an ALU operation (R99). -/
def aluImmediateInstr (v : Byte) : AluOp → Instr
  | .add => .adi v
  | .adc => .aci v
  | .sub => .sui v
  | .sbb => .sbi v
  | .ana => .ani v
  | .xra => .xri v
  | .ora => .ori v
  | .cmp => .cpi v

/-- INR ddd (R200, R201). -/
def inrInstr : Operand8 → Instr
  | .reg .b => .inrB
  | .reg .c => .inrC
  | .reg .d => .inrD
  | .reg .e => .inrE
  | .reg .h => .inrH
  | .reg .l => .inrL
  | .m => .inrM
  | .reg .a => .inrA

/-- DCR ddd (R202, R203). -/
def dcrInstr : Operand8 → Instr
  | .reg .b => .dcrB
  | .reg .c => .dcrC
  | .reg .d => .dcrD
  | .reg .e => .dcrE
  | .reg .h => .dcrH
  | .reg .l => .dcrL
  | .m => .dcrM
  | .reg .a => .dcrA

/-- MVI ddd,d8 (R143, R144). -/
def mviInstr (v : Byte) : Operand8 → Instr
  | .reg .b => .mviB v
  | .reg .c => .mviC v
  | .reg .d => .mviD v
  | .reg .e => .mviE v
  | .reg .h => .mviH v
  | .reg .l => .mviL v
  | .m => .mviM v
  | .reg .a => .mviA v

/-- Jcc a16 (R242). -/
def jccInstr (w : Word) : Cond → Instr
  | .nz => .jnz w
  | .z => .jz w
  | .nc => .jnc w
  | .c => .jc w
  | .po => .jpo w
  | .pe => .jpe w
  | .p => .jp w
  | .m => .jm w

/-- Ccc a16 (R252). -/
def cccInstr (w : Word) : Cond → Instr
  | .nz => .cnz w
  | .z => .cz w
  | .nc => .cnc w
  | .c => .cc w
  | .po => .cpo w
  | .pe => .cpe w
  | .p => .cp w
  | .m => .cm w

/-- Rcc (R262). -/
def rccInstr : Cond → Instr
  | .nz => .rnz
  | .z => .rz
  | .nc => .rnc
  | .c => .rc
  | .po => .rpo
  | .pe => .rpe
  | .p => .rp
  | .m => .rm

/-- RST nnn: "n is bits 5:3 of the opcode" (R271). -/
def rstInstr (y : BitVec 3) : Instr :=
  match y with
  | 0 => .rst0
  | 1 => .rst1
  | 2 => .rst2
  | 3 => .rst3
  | 4 => .rst4
  | 5 => .rst5
  | 6 => .rst6
  | 7 => .rst7

/-! ## Group 00 by column (R100). `y` is bits 5:3, that is, the pair in bits 5:4 and q in bit 3. -/

/-- NOP and its seven aliases, which `UNDOC_POLICY` does not govern (R312, R313). -/
def group00Column0 (y : BitVec 3) : Instr :=
  match y with
  | 0 => .nop
  | 1 => .nopAlias08
  | 2 => .nopAlias10
  | 3 => .nopAlias18
  | 4 => .nopAlias20
  | 5 => .nopAlias28
  | 6 => .nopAlias30
  | 7 => .nopAlias38

/-- LXI rp (q = 0), DAD rp (q = 1). -/
def group00Column1 (w : Word) (y : BitVec 3) : Instr :=
  match y with
  | 0 => .lxiB w
  | 1 => .dadB
  | 2 => .lxiD w
  | 3 => .dadD
  | 4 => .lxiH w
  | 5 => .dadH
  | 6 => .lxiSp w
  | 7 => .dadSp

/-- STAX, LDAX on BC and DE; SHLD, LHLD, STA, LDA. -/
def group00Column2 (w : Word) (y : BitVec 3) : Instr :=
  match y with
  | 0 => .staxB
  | 1 => .ldaxB
  | 2 => .staxD
  | 3 => .ldaxD
  | 4 => .shld w
  | 5 => .lhld w
  | 6 => .sta w
  | 7 => .lda w

/-- INX rp (q = 0), DCX rp (q = 1). -/
def group00Column3 (y : BitVec 3) : Instr :=
  match y with
  | 0 => .inxB
  | 1 => .dcxB
  | 2 => .inxD
  | 3 => .dcxD
  | 4 => .inxH
  | 5 => .dcxH
  | 6 => .inxSp
  | 7 => .dcxSp

/-- The rotates, DAA, CMA, STC and CMC. -/
def group00Column7 (y : BitVec 3) : Instr :=
  match y with
  | 0 => .rlc
  | 1 => .rrc
  | 2 => .ral
  | 3 => .rar
  | 4 => .daa
  | 5 => .cma
  | 6 => .stc
  | 7 => .cmc

/-- Group 00, 0x00 to 0x3F (R100). -/
def decodeGroup00 (y z : BitVec 3) (v : Byte) (w : Word) : Instr :=
  match z with
  | 0 => group00Column0 y
  | 1 => group00Column1 w y
  | 2 => group00Column2 w y
  | 3 => group00Column3 y
  | 4 => inrInstr (operand8Of y)
  | 5 => dcrInstr (operand8Of y)
  | 6 => mviInstr v (operand8Of y)
  | 7 => group00Column7 y

/-! ## Group 11 by column (R100) -/

/-- POP rp (q = 0); RET, its alias 0xD9, PCHL and SPHL (q = 1). -/
def group11Column1 (p : UndocPolicy) (y : BitVec 3) : Instr :=
  match y with
  | 0 => .popB
  | 1 => .ret
  | 2 => .popD
  | 3 => p.select .retAlias .nop
  | 4 => .popH
  | 5 => .pchl
  | 6 => .popPsw
  | 7 => .sphl

/-- JMP, its alias 0xCB, OUT, IN, XTHL, XCHG, DI and EI. -/
def group11Column3 (p : UndocPolicy) (v : Byte) (w : Word) (y : BitVec 3) : Instr :=
  match y with
  | 0 => .jmp w
  | 1 => p.select (.jmpAlias w) .nop
  | 2 => .outPort v
  | 3 => .inPort v
  | 4 => .xthl
  | 5 => .xchg
  | 6 => .di
  | 7 => .ei

/-- PUSH rp (q = 0); CALL and its aliases 0xDD, 0xED, 0xFD (q = 1). -/
def group11Column5 (p : UndocPolicy) (w : Word) (y : BitVec 3) : Instr :=
  match y with
  | 0 => .pushB
  | 1 => .call w
  | 2 => .pushD
  | 3 => p.select (.callAliasDD w) .nop
  | 4 => .pushH
  | 5 => p.select (.callAliasED w) .nop
  | 6 => .pushPsw
  | 7 => p.select (.callAliasFD w) .nop

/-- Group 11, 0xC0 to 0xFF (R100). -/
def decodeGroup11 (p : UndocPolicy) (y z : BitVec 3) (v : Byte) (w : Word) : Instr :=
  match z with
  | 0 => rccInstr (condOf y)
  | 1 => group11Column1 p y
  | 2 => jccInstr w (condOf y)
  | 3 => group11Column3 p v w y
  | 4 => cccInstr w (condOf y)
  | 5 => group11Column5 p w y
  | 6 => aluImmediateInstr v (aluOpOf y)
  | 7 => rstInstr y

/-! ## The decoder -/

/-- The instruction of opcode byte `op` followed by the bytes `b1` and `b2`, under a value of `UNDOC_POLICY`; total,
since every opcode byte is an instruction (R102). A format that takes fewer bytes looks at fewer. -/
def decodeOpcodeUnder (p : UndocPolicy) (op b1 b2 : Byte) : Instr :=
  match groupField op with
  | 0 => decodeGroup00 (midField op) (lowField op) b1 (cat b2 b1)
  | 1 => movInstr (operand8Of (midField op)) (operand8Of (lowField op))
  | 2 => aluInstr (aluOpOf (midField op)) (operand8Of (lowField op))
  | 3 => decodeGroup11 p (midField op) (lowField op) b1 (cat b2 b1)

/-- The instruction of an opcode byte and the two bytes after it, under the policy taken. -/
def decodeOpcode (op b1 b2 : Byte) : Instr := decodeOpcodeUnder Config.undocPolicy op b1 b2

/-- Why a list of bytes is no instruction: only because it ends too soon, since no opcode byte is illegal (R102). -/
inductive DecodeError where
  /-- There is no opcode byte. -/
  | noOpcode
  /-- The opcode byte takes `needed` bytes (R92) and the list ends before them. -/
  | truncated (op : Byte) (needed : Nat)
deriving DecidableEq, Repr

/-- Reads one instruction from the front of a list of bytes (R90, R103) and gives the bytes after it. -/
def decode : List Byte → Except DecodeError (Instr × List Byte)
  | [] => .error .noOpcode
  | op :: rest =>
    match formatOf op, rest with
    | .f1, rest => .ok (decodeOpcode op 0 0, rest)
    | .f2, b1 :: rest => .ok (decodeOpcode op b1 0, rest)
    | .f3, b1 :: b2 :: rest => .ok (decodeOpcode op b1 b2, rest)
    | .f2, [] => .error (.truncated op 2)
    | .f3, [] | .f3, [_] => .error (.truncated op 3)

/-- The three bytes of an instruction whose bits are `w`, numbered as spec/opcode_table.json numbers them (bit 0 is bit 0
of the opcode byte), every bit from `nbits` on being 0. -/
def tableBytes (nbits w : Nat) : List Byte :=
  let x := w % 2 ^ nbits
  [BitVec.ofNat 8 x, BitVec.ofNat 8 (x / 2 ^ 8), BitVec.ofNat 8 (x / 2 ^ 16)]

/-- The instruction the decoder reads from a word of spec/opcode_table.json. -/
def decodeTableWord (nbits w : Nat) : Option Instr :=
  match decode (tableBytes nbits w) with
  | .ok (i, _) => some i
  | .error _ => none

/-! ## The encoder -/

/-- The opcode byte of an instruction: the opcode map (R101), row by row. -/
def Instr.opcode : Instr → Byte
  | .nop => 0x00
  | .lxiB _ => 0x01
  | .staxB => 0x02
  | .inxB => 0x03
  | .inrB => 0x04
  | .dcrB => 0x05
  | .mviB _ => 0x06
  | .rlc => 0x07
  | .nopAlias08 => 0x08
  | .dadB => 0x09
  | .ldaxB => 0x0A
  | .dcxB => 0x0B
  | .inrC => 0x0C
  | .dcrC => 0x0D
  | .mviC _ => 0x0E
  | .rrc => 0x0F
  | .nopAlias10 => 0x10
  | .lxiD _ => 0x11
  | .staxD => 0x12
  | .inxD => 0x13
  | .inrD => 0x14
  | .dcrD => 0x15
  | .mviD _ => 0x16
  | .ral => 0x17
  | .nopAlias18 => 0x18
  | .dadD => 0x19
  | .ldaxD => 0x1A
  | .dcxD => 0x1B
  | .inrE => 0x1C
  | .dcrE => 0x1D
  | .mviE _ => 0x1E
  | .rar => 0x1F
  | .nopAlias20 => 0x20
  | .lxiH _ => 0x21
  | .shld _ => 0x22
  | .inxH => 0x23
  | .inrH => 0x24
  | .dcrH => 0x25
  | .mviH _ => 0x26
  | .daa => 0x27
  | .nopAlias28 => 0x28
  | .dadH => 0x29
  | .lhld _ => 0x2A
  | .dcxH => 0x2B
  | .inrL => 0x2C
  | .dcrL => 0x2D
  | .mviL _ => 0x2E
  | .cma => 0x2F
  | .nopAlias30 => 0x30
  | .lxiSp _ => 0x31
  | .sta _ => 0x32
  | .inxSp => 0x33
  | .inrM => 0x34
  | .dcrM => 0x35
  | .mviM _ => 0x36
  | .stc => 0x37
  | .nopAlias38 => 0x38
  | .dadSp => 0x39
  | .lda _ => 0x3A
  | .dcxSp => 0x3B
  | .inrA => 0x3C
  | .dcrA => 0x3D
  | .mviA _ => 0x3E
  | .cmc => 0x3F
  | .movBB => 0x40
  | .movBC => 0x41
  | .movBD => 0x42
  | .movBE => 0x43
  | .movBH => 0x44
  | .movBL => 0x45
  | .movBM => 0x46
  | .movBA => 0x47
  | .movCB => 0x48
  | .movCC => 0x49
  | .movCD => 0x4A
  | .movCE => 0x4B
  | .movCH => 0x4C
  | .movCL => 0x4D
  | .movCM => 0x4E
  | .movCA => 0x4F
  | .movDB => 0x50
  | .movDC => 0x51
  | .movDD => 0x52
  | .movDE => 0x53
  | .movDH => 0x54
  | .movDL => 0x55
  | .movDM => 0x56
  | .movDA => 0x57
  | .movEB => 0x58
  | .movEC => 0x59
  | .movED => 0x5A
  | .movEE => 0x5B
  | .movEH => 0x5C
  | .movEL => 0x5D
  | .movEM => 0x5E
  | .movEA => 0x5F
  | .movHB => 0x60
  | .movHC => 0x61
  | .movHD => 0x62
  | .movHE => 0x63
  | .movHH => 0x64
  | .movHL => 0x65
  | .movHM => 0x66
  | .movHA => 0x67
  | .movLB => 0x68
  | .movLC => 0x69
  | .movLD => 0x6A
  | .movLE => 0x6B
  | .movLH => 0x6C
  | .movLL => 0x6D
  | .movLM => 0x6E
  | .movLA => 0x6F
  | .movMB => 0x70
  | .movMC => 0x71
  | .movMD => 0x72
  | .movME => 0x73
  | .movMH => 0x74
  | .movML => 0x75
  | .hlt => 0x76
  | .movMA => 0x77
  | .movAB => 0x78
  | .movAC => 0x79
  | .movAD => 0x7A
  | .movAE => 0x7B
  | .movAH => 0x7C
  | .movAL => 0x7D
  | .movAM => 0x7E
  | .movAA => 0x7F
  | .addB => 0x80
  | .addC => 0x81
  | .addD => 0x82
  | .addE => 0x83
  | .addH => 0x84
  | .addL => 0x85
  | .addM => 0x86
  | .addA => 0x87
  | .adcB => 0x88
  | .adcC => 0x89
  | .adcD => 0x8A
  | .adcE => 0x8B
  | .adcH => 0x8C
  | .adcL => 0x8D
  | .adcM => 0x8E
  | .adcA => 0x8F
  | .subB => 0x90
  | .subC => 0x91
  | .subD => 0x92
  | .subE => 0x93
  | .subH => 0x94
  | .subL => 0x95
  | .subM => 0x96
  | .subA => 0x97
  | .sbbB => 0x98
  | .sbbC => 0x99
  | .sbbD => 0x9A
  | .sbbE => 0x9B
  | .sbbH => 0x9C
  | .sbbL => 0x9D
  | .sbbM => 0x9E
  | .sbbA => 0x9F
  | .anaB => 0xA0
  | .anaC => 0xA1
  | .anaD => 0xA2
  | .anaE => 0xA3
  | .anaH => 0xA4
  | .anaL => 0xA5
  | .anaM => 0xA6
  | .anaA => 0xA7
  | .xraB => 0xA8
  | .xraC => 0xA9
  | .xraD => 0xAA
  | .xraE => 0xAB
  | .xraH => 0xAC
  | .xraL => 0xAD
  | .xraM => 0xAE
  | .xraA => 0xAF
  | .oraB => 0xB0
  | .oraC => 0xB1
  | .oraD => 0xB2
  | .oraE => 0xB3
  | .oraH => 0xB4
  | .oraL => 0xB5
  | .oraM => 0xB6
  | .oraA => 0xB7
  | .cmpB => 0xB8
  | .cmpC => 0xB9
  | .cmpD => 0xBA
  | .cmpE => 0xBB
  | .cmpH => 0xBC
  | .cmpL => 0xBD
  | .cmpM => 0xBE
  | .cmpA => 0xBF
  | .rnz => 0xC0
  | .popB => 0xC1
  | .jnz _ => 0xC2
  | .jmp _ => 0xC3
  | .cnz _ => 0xC4
  | .pushB => 0xC5
  | .adi _ => 0xC6
  | .rst0 => 0xC7
  | .rz => 0xC8
  | .ret => 0xC9
  | .jz _ => 0xCA
  | .jmpAlias _ => 0xCB
  | .cz _ => 0xCC
  | .call _ => 0xCD
  | .aci _ => 0xCE
  | .rst1 => 0xCF
  | .rnc => 0xD0
  | .popD => 0xD1
  | .jnc _ => 0xD2
  | .outPort _ => 0xD3
  | .cnc _ => 0xD4
  | .pushD => 0xD5
  | .sui _ => 0xD6
  | .rst2 => 0xD7
  | .rc => 0xD8
  | .retAlias => 0xD9
  | .jc _ => 0xDA
  | .inPort _ => 0xDB
  | .cc _ => 0xDC
  | .callAliasDD _ => 0xDD
  | .sbi _ => 0xDE
  | .rst3 => 0xDF
  | .rpo => 0xE0
  | .popH => 0xE1
  | .jpo _ => 0xE2
  | .xthl => 0xE3
  | .cpo _ => 0xE4
  | .pushH => 0xE5
  | .ani _ => 0xE6
  | .rst4 => 0xE7
  | .rpe => 0xE8
  | .pchl => 0xE9
  | .jpe _ => 0xEA
  | .xchg => 0xEB
  | .cpe _ => 0xEC
  | .callAliasED _ => 0xED
  | .xri _ => 0xEE
  | .rst5 => 0xEF
  | .rp => 0xF0
  | .popPsw => 0xF1
  | .jp _ => 0xF2
  | .di => 0xF3
  | .cp _ => 0xF4
  | .pushPsw => 0xF5
  | .ori _ => 0xF6
  | .rst6 => 0xF7
  | .rm => 0xF8
  | .sphl => 0xF9
  | .jm _ => 0xFA
  | .ei => 0xFB
  | .cm _ => 0xFC
  | .callAliasFD _ => 0xFD
  | .cpi _ => 0xFE
  | .rst7 => 0xFF

/-- The operand bytes of an immediate: d16 and a16 low byte first (R91). -/
def Immediate.bytes : Immediate → List Byte
  | .none => []
  | .d8 v => [v]
  | .d16 w => [loByte w, hiByte w]

/-- The bytes of an instruction, in the order they stand in memory (R90, R91). -/
def encode (i : Instr) : List Byte := i.opcode :: i.immediate.bytes

end Sys2Proof
end

