-- ==== Sys2Proof/Machine/Ops.lean ====
section
/-! DEFINITION. The named operations over memory, the stack, the I/O ports and the program counter (00_scope.md R11).
There is no operation that takes an exception or returns from one: the core has none (60_exceptions.md R330, R334,
R335). -/

namespace Sys2Proof.Machine

/-! ## Memory (20_memory.md R60 to R68) -/

/-- The byte a memory holds at an address. -/
def Memory.readAt : Memory → Nat → Byte
  | [], _ => Config.memoryReset
  | (k, v) :: m, a => if a = k then v else if a < k then Config.memoryReset else Memory.readAt m a

/-- `v` put in front of a memory at an address below all of its own; the value an unlisted address reads as is not
listed. -/
def Memory.consCell (a : Nat) (v : Byte) (m : Memory) : Memory :=
  if v = Config.memoryReset then m else (a, v) :: m

/-- A memory with `v` at address `a`, in the one form of `Memory.wf`. -/
def Memory.writeAt : Memory → Nat → Byte → Memory
  | [], a, v => Memory.consCell a v []
  | (k, w) :: m, a, v =>
    if a < k then Memory.consCell a v ((k, w) :: m)
    else if a = k then Memory.consCell a v m
    else (k, w) :: Memory.writeAt m a v

/-- `MemRead(addr, 1)` (R63): total, with no side effect. -/
def memRead (a : Word) (s : State) : Byte := s.mem.readAt a.toNat

/-- `MemWrite(addr, 1, v)` (R63). -/
def memWrite (a : Word) (v : Byte) (s : State) : State := { s with mem := s.mem.writeAt a.toNat v }

/-- `Read16(addr)` (R66): the low byte at `a`, the high byte at `(a + 1) mod 2^16`. -/
def read16 (a : Word) (s : State) : Word := cat (memRead (a + 1) s) (memRead a s)

/-- `Write16(addr, v)` (R67): the low byte to `a`, then the high byte to `(a + 1) mod 2^16`. -/
def write16 (a v : Word) (s : State) : State := memWrite (a + 1) (hiByte v) (memWrite a (loByte v) s)

/-! ## The stack (46_stack_exchange.md R290, R291) -/

/-- `Push16(v)` (R290): the high byte to SP − 1, the low byte to SP − 2, then SP ← SP − 2. -/
def push16 (v : Word) (s : State) : State :=
  let t := memWrite (s.sp - 2) (loByte v) (memWrite (s.sp - 1) (hiByte v) s)
  { t with sp := s.sp - 2 }

/-- The value `Pop16()` returns (R291): low from SP, high from SP + 1. -/
def popValue (s : State) : Word := read16 s.sp s

/-- What `Pop16()` does to the state (R291): SP ← SP + 2, and memory stays. -/
def dropStack (s : State) : State := { s with sp := s.sp + 2 }

/-! ## The I/O ports (20_memory.md R72 to R76) -/

/-- The value `IoIn(port)` reads (R75): `IO_DEFAULT_IN` with no device attached, a draw from `io_env` with one. -/
def ioValue (port : Byte) (s : State) : Byte :=
  match s.io with
  | .defaultStubs => Config.ioDefaultIn
  | .device id => Config.ioEnv id s.ioDraws port s.ioTrace

/-- What `IoIn(port)` does beside (R75): it appends (In, port, v) to `io_trace`; a draw is counted. -/
def ioAfterIn (port : Byte) (s : State) : State :=
  { s with
    ioDraws := match s.io with
      | .defaultStubs => s.ioDraws
      | .device _ => s.ioDraws + 1
    ioTrace := s.ioTrace ++ [.input port (ioValue port s)] }

/-- `IoOut(port, v)` (R76): it appends (Out, port, v) to `io_trace`; "OUT is a no-op" with no device attached, and an
attached device learns of the event through the trace `Config.ioEnv` is given. -/
def ioOut (port v : Byte) (s : State) : State := { s with ioTrace := s.ioTrace ++ [.output port v] }

/-! ## Fetching (30_encoding.md R97, R98) -/

/-- What `Fetch8()` does to PC (R97). -/
def advancePc (s : State) : State := { s with pc := s.pc + 1 }

/-- The opcode, d8 or port byte `Fetch8()` returns (R97): the byte at PC. -/
def fetch8 (s : State) : Byte := memRead s.pc s

/-- The fetch of a whole instruction (R98): the opcode byte, then the operand bytes its format takes, each at PC, with
PC moved past it. All of them are fetched before the instruction does anything else (R98, R80). Log 1. -/
def fetchInstr (s : State) : Instr × State :=
  let op := fetch8 s
  let s1 := advancePc s
  match formatOf op with
  | .f1 => (decodeOpcode op 0 0, s1)
  | .f2 => (decodeOpcode op (fetch8 s1) 0, advancePc s1)
  | .f3 => (decodeOpcode op (fetch8 s1) (fetch8 (advancePc s1)), advancePc (advancePc s1))

/-- Bytes stored from an address on, the address wrapping (R61). -/
def storeBytes (a : Word) : List Byte → State → State
  | [], s => s
  | v :: vs, s => storeBytes (a + 1) vs (memWrite a v s)

end Sys2Proof.Machine
end

