-- ==== Sys2Proof/Machine/Operands.lean ====
section
/-! DEFINITION. The operand forms: registers, M, the pair views, the conditions (10_state.md R21 to R24; 30_encoding.md R94
to R96). -/

namespace Sys2Proof.Machine

/-- A general register's value, `reg8` (R10, R21). -/
def regRead (r : Reg) (s : State) : Byte :=
  match r with
  | .b => s.b
  | .c => s.c
  | .d => s.d
  | .e => s.e
  | .h => s.h
  | .l => s.l
  | .a => s.a

/-- A general register written. No register is hardwired (R21). -/
def regWrite (r : Reg) (v : Byte) (s : State) : State :=
  match r with
  | .b => { s with b := v }
  | .c => { s with c := v }
  | .d => { s with d := v }
  | .e => { s with e := v }
  | .h => { s with h := v }
  | .l => { s with l := v }
  | .a => { s with a := v }

/-- The pair views BC, DE, HL (R23). -/
def bc (s : State) : Word := cat s.b s.c
def de (s : State) : Word := cat s.d s.e
def hl (s : State) : Word := cat s.h s.l

/-- A write of a pair writes both halves at once (R23). -/
def setBc (v : Word) (s : State) : State := { s with b := hiByte v, c := loByte v }
def setDe (v : Word) (s : State) : State := { s with d := hiByte v, e := loByte v }
def setHl (v : Word) (s : State) : State := { s with h := hiByte v, l := loByte v }

/-- PSW = (A, flag byte) (R24). -/
def psw (s : State) : Word := cat s.a (flagByte s.flags)

/-- A write of PSW: A from the high byte, the flags from the low byte, its fixed bits discarded (R24, R28). -/
def setPsw (v : Word) (s : State) : State := { s with a := hiByte v, flags := flagsOfByte (loByte v) }

/-- `ReadR8` (R94): M is the memory byte at HL. -/
def readR8 (x : Operand8) (s : State) : Byte :=
  match x with
  | .reg r => regRead r s
  | .m => memRead (hl s) s

/-- `WriteR8` (R94). -/
def writeR8 (x : Operand8) (v : Byte) (s : State) : State :=
  match x with
  | .reg r => regWrite r v s
  | .m => memWrite (hl s) v s

/-- `GetRP` (R95, first table). -/
def getRP (p : RegPair) (s : State) : Word :=
  match p with
  | .bc => bc s
  | .de => de s
  | .hl => hl s
  | .sp => s.sp

/-- `SetRP` (R95, first table). -/
def setRP (p : RegPair) (v : Word) (s : State) : State :=
  match p with
  | .bc => setBc v s
  | .de => setDe v s
  | .hl => setHl v s
  | .sp => { s with sp := v }

/-- The pair PUSH stores (R95, second table; R292, R293). -/
def getStackPair (p : StackPair) (s : State) : Word :=
  match p with
  | .bc => bc s
  | .de => de s
  | .hl => hl s
  | .psw => psw s

/-- The pair POP loads (R95, second table; R294, R295). -/
def setStackPair (p : StackPair) (v : Word) (s : State) : State :=
  match p with
  | .bc => setBc v s
  | .de => setDe v s
  | .hl => setHl v s
  | .psw => setPsw v s

/-- The address STAX and LDAX use (R95, third table). -/
def getIndexPair (p : IndexPair) (s : State) : Word :=
  match p with
  | .bc => bc s
  | .de => de s

/-- `Cond(ccc)` (R96). -/
def condHolds (ccc : Cond) (f : Flags) : Bool :=
  match ccc with
  | .nz => !f.z
  | .z => f.z
  | .nc => !f.cy
  | .c => f.cy
  | .po => !f.p
  | .pe => f.p
  | .p => !f.s
  | .m => f.s

end Sys2Proof.Machine
end

