-- ==== Sys2Proof/Machine/ArithLogic.lean ====
section
/-! DEFINITION. The 8-bit arithmetic and logical instructions (42_arith_logic.md R170 to R193).
The state a meaning is given has PC past the instruction's bytes, as it stands once they are all
fetched (30_encoding.md R97, R98; log 1). -/

namespace Sys2Proof.Machine

/-- A result written to A, and its flags applied (R136). -/
def applyToA (r : AluResult) (s : State) : State := { s with a := r.res, flags := r.flags }

/-- ADD, ADI (R170, R171, R186): cin = 0. -/
def aluAdd (v : Byte) (s : State) : State := applyToA (add8 s.a v false) s

/-- ADC, ACI (R172, R173, R187): cin is CY as it was before. -/
def aluAdc (v : Byte) (s : State) : State := applyToA (add8 s.a v s.flags.cy) s

/-- SUB, SUI (R174, R175, R188): cin = 0. -/
def aluSub (v : Byte) (s : State) : State := applyToA (sub8 s.a v false) s

/-- SBB, SBI (R176, R177, R189): cin is CY as it was before. -/
def aluSbb (v : Byte) (s : State) : State := applyToA (sub8 s.a v s.flags.cy) s

/-- ANA, ANI (R178, R179, R190). -/
def aluAna (v : Byte) (s : State) : State := applyToA (and8 s.a v) s

/-- XRA, XRI (R180, R181, R191). -/
def aluXra (v : Byte) (s : State) : State := applyToA (xor8 s.a v) s

/-- ORA, ORI (R182, R183, R192). -/
def aluOra (v : Byte) (s : State) : State := applyToA (or8 s.a v) s

/-- CMP, CPI (R184, R185, R193): "sets flags as subtract but does not modify A" (R128). -/
def aluCmp (v : Byte) (s : State) : State := { s with flags := (sub8 s.a v false).flags }

/-- 0x80 ADD B (R170). -/
def execAddB (s : State) : Host.Outcome State Fault Refusal := .next (aluAdd (readR8 (.reg .b) s) s)

/-- 0x81 ADD C (R170). -/
def execAddC (s : State) : Host.Outcome State Fault Refusal := .next (aluAdd (readR8 (.reg .c) s) s)

/-- 0x82 ADD D (R170). -/
def execAddD (s : State) : Host.Outcome State Fault Refusal := .next (aluAdd (readR8 (.reg .d) s) s)

/-- 0x83 ADD E (R170). -/
def execAddE (s : State) : Host.Outcome State Fault Refusal := .next (aluAdd (readR8 (.reg .e) s) s)

/-- 0x84 ADD H (R170). -/
def execAddH (s : State) : Host.Outcome State Fault Refusal := .next (aluAdd (readR8 (.reg .h) s) s)

/-- 0x85 ADD L (R170). -/
def execAddL (s : State) : Host.Outcome State Fault Refusal := .next (aluAdd (readR8 (.reg .l) s) s)

/-- 0x86 ADD M (R171). -/
def execAddM (s : State) : Host.Outcome State Fault Refusal := .next (aluAdd (readR8 .m s) s)

/-- 0x87 ADD A (R170). -/
def execAddA (s : State) : Host.Outcome State Fault Refusal := .next (aluAdd (readR8 (.reg .a) s) s)

/-- 0x88 ADC B (R172). -/
def execAdcB (s : State) : Host.Outcome State Fault Refusal := .next (aluAdc (readR8 (.reg .b) s) s)

/-- 0x89 ADC C (R172). -/
def execAdcC (s : State) : Host.Outcome State Fault Refusal := .next (aluAdc (readR8 (.reg .c) s) s)

/-- 0x8A ADC D (R172). -/
def execAdcD (s : State) : Host.Outcome State Fault Refusal := .next (aluAdc (readR8 (.reg .d) s) s)

/-- 0x8B ADC E (R172). -/
def execAdcE (s : State) : Host.Outcome State Fault Refusal := .next (aluAdc (readR8 (.reg .e) s) s)

/-- 0x8C ADC H (R172). -/
def execAdcH (s : State) : Host.Outcome State Fault Refusal := .next (aluAdc (readR8 (.reg .h) s) s)

/-- 0x8D ADC L (R172). -/
def execAdcL (s : State) : Host.Outcome State Fault Refusal := .next (aluAdc (readR8 (.reg .l) s) s)

/-- 0x8E ADC M (R173). -/
def execAdcM (s : State) : Host.Outcome State Fault Refusal := .next (aluAdc (readR8 .m s) s)

/-- 0x8F ADC A (R172). -/
def execAdcA (s : State) : Host.Outcome State Fault Refusal := .next (aluAdc (readR8 (.reg .a) s) s)

/-- 0x90 SUB B (R174). -/
def execSubB (s : State) : Host.Outcome State Fault Refusal := .next (aluSub (readR8 (.reg .b) s) s)

/-- 0x91 SUB C (R174). -/
def execSubC (s : State) : Host.Outcome State Fault Refusal := .next (aluSub (readR8 (.reg .c) s) s)

/-- 0x92 SUB D (R174). -/
def execSubD (s : State) : Host.Outcome State Fault Refusal := .next (aluSub (readR8 (.reg .d) s) s)

/-- 0x93 SUB E (R174). -/
def execSubE (s : State) : Host.Outcome State Fault Refusal := .next (aluSub (readR8 (.reg .e) s) s)

/-- 0x94 SUB H (R174). -/
def execSubH (s : State) : Host.Outcome State Fault Refusal := .next (aluSub (readR8 (.reg .h) s) s)

/-- 0x95 SUB L (R174). -/
def execSubL (s : State) : Host.Outcome State Fault Refusal := .next (aluSub (readR8 (.reg .l) s) s)

/-- 0x96 SUB M (R175). -/
def execSubM (s : State) : Host.Outcome State Fault Refusal := .next (aluSub (readR8 .m s) s)

/-- 0x97 SUB A (R174). -/
def execSubA (s : State) : Host.Outcome State Fault Refusal := .next (aluSub (readR8 (.reg .a) s) s)

/-- 0x98 SBB B (R176). -/
def execSbbB (s : State) : Host.Outcome State Fault Refusal := .next (aluSbb (readR8 (.reg .b) s) s)

/-- 0x99 SBB C (R176). -/
def execSbbC (s : State) : Host.Outcome State Fault Refusal := .next (aluSbb (readR8 (.reg .c) s) s)

/-- 0x9A SBB D (R176). -/
def execSbbD (s : State) : Host.Outcome State Fault Refusal := .next (aluSbb (readR8 (.reg .d) s) s)

/-- 0x9B SBB E (R176). -/
def execSbbE (s : State) : Host.Outcome State Fault Refusal := .next (aluSbb (readR8 (.reg .e) s) s)

/-- 0x9C SBB H (R176). -/
def execSbbH (s : State) : Host.Outcome State Fault Refusal := .next (aluSbb (readR8 (.reg .h) s) s)

/-- 0x9D SBB L (R176). -/
def execSbbL (s : State) : Host.Outcome State Fault Refusal := .next (aluSbb (readR8 (.reg .l) s) s)

/-- 0x9E SBB M (R177). -/
def execSbbM (s : State) : Host.Outcome State Fault Refusal := .next (aluSbb (readR8 .m s) s)

/-- 0x9F SBB A (R176). -/
def execSbbA (s : State) : Host.Outcome State Fault Refusal := .next (aluSbb (readR8 (.reg .a) s) s)

/-- 0xA0 ANA B (R178). -/
def execAnaB (s : State) : Host.Outcome State Fault Refusal := .next (aluAna (readR8 (.reg .b) s) s)

/-- 0xA1 ANA C (R178). -/
def execAnaC (s : State) : Host.Outcome State Fault Refusal := .next (aluAna (readR8 (.reg .c) s) s)

/-- 0xA2 ANA D (R178). -/
def execAnaD (s : State) : Host.Outcome State Fault Refusal := .next (aluAna (readR8 (.reg .d) s) s)

/-- 0xA3 ANA E (R178). -/
def execAnaE (s : State) : Host.Outcome State Fault Refusal := .next (aluAna (readR8 (.reg .e) s) s)

/-- 0xA4 ANA H (R178). -/
def execAnaH (s : State) : Host.Outcome State Fault Refusal := .next (aluAna (readR8 (.reg .h) s) s)

/-- 0xA5 ANA L (R178). -/
def execAnaL (s : State) : Host.Outcome State Fault Refusal := .next (aluAna (readR8 (.reg .l) s) s)

/-- 0xA6 ANA M (R179). -/
def execAnaM (s : State) : Host.Outcome State Fault Refusal := .next (aluAna (readR8 .m s) s)

/-- 0xA7 ANA A (R178). -/
def execAnaA (s : State) : Host.Outcome State Fault Refusal := .next (aluAna (readR8 (.reg .a) s) s)

/-- 0xA8 XRA B (R180). -/
def execXraB (s : State) : Host.Outcome State Fault Refusal := .next (aluXra (readR8 (.reg .b) s) s)

/-- 0xA9 XRA C (R180). -/
def execXraC (s : State) : Host.Outcome State Fault Refusal := .next (aluXra (readR8 (.reg .c) s) s)

/-- 0xAA XRA D (R180). -/
def execXraD (s : State) : Host.Outcome State Fault Refusal := .next (aluXra (readR8 (.reg .d) s) s)

/-- 0xAB XRA E (R180). -/
def execXraE (s : State) : Host.Outcome State Fault Refusal := .next (aluXra (readR8 (.reg .e) s) s)

/-- 0xAC XRA H (R180). -/
def execXraH (s : State) : Host.Outcome State Fault Refusal := .next (aluXra (readR8 (.reg .h) s) s)

/-- 0xAD XRA L (R180). -/
def execXraL (s : State) : Host.Outcome State Fault Refusal := .next (aluXra (readR8 (.reg .l) s) s)

/-- 0xAE XRA M (R181). -/
def execXraM (s : State) : Host.Outcome State Fault Refusal := .next (aluXra (readR8 .m s) s)

/-- 0xAF XRA A (R180). -/
def execXraA (s : State) : Host.Outcome State Fault Refusal := .next (aluXra (readR8 (.reg .a) s) s)

/-- 0xB0 ORA B (R182). -/
def execOraB (s : State) : Host.Outcome State Fault Refusal := .next (aluOra (readR8 (.reg .b) s) s)

/-- 0xB1 ORA C (R182). -/
def execOraC (s : State) : Host.Outcome State Fault Refusal := .next (aluOra (readR8 (.reg .c) s) s)

/-- 0xB2 ORA D (R182). -/
def execOraD (s : State) : Host.Outcome State Fault Refusal := .next (aluOra (readR8 (.reg .d) s) s)

/-- 0xB3 ORA E (R182). -/
def execOraE (s : State) : Host.Outcome State Fault Refusal := .next (aluOra (readR8 (.reg .e) s) s)

/-- 0xB4 ORA H (R182). -/
def execOraH (s : State) : Host.Outcome State Fault Refusal := .next (aluOra (readR8 (.reg .h) s) s)

/-- 0xB5 ORA L (R182). -/
def execOraL (s : State) : Host.Outcome State Fault Refusal := .next (aluOra (readR8 (.reg .l) s) s)

/-- 0xB6 ORA M (R183). -/
def execOraM (s : State) : Host.Outcome State Fault Refusal := .next (aluOra (readR8 .m s) s)

/-- 0xB7 ORA A (R182). -/
def execOraA (s : State) : Host.Outcome State Fault Refusal := .next (aluOra (readR8 (.reg .a) s) s)

/-- 0xB8 CMP B (R184). -/
def execCmpB (s : State) : Host.Outcome State Fault Refusal := .next (aluCmp (readR8 (.reg .b) s) s)

/-- 0xB9 CMP C (R184). -/
def execCmpC (s : State) : Host.Outcome State Fault Refusal := .next (aluCmp (readR8 (.reg .c) s) s)

/-- 0xBA CMP D (R184). -/
def execCmpD (s : State) : Host.Outcome State Fault Refusal := .next (aluCmp (readR8 (.reg .d) s) s)

/-- 0xBB CMP E (R184). -/
def execCmpE (s : State) : Host.Outcome State Fault Refusal := .next (aluCmp (readR8 (.reg .e) s) s)

/-- 0xBC CMP H (R184). -/
def execCmpH (s : State) : Host.Outcome State Fault Refusal := .next (aluCmp (readR8 (.reg .h) s) s)

/-- 0xBD CMP L (R184). -/
def execCmpL (s : State) : Host.Outcome State Fault Refusal := .next (aluCmp (readR8 (.reg .l) s) s)

/-- 0xBE CMP M (R185). -/
def execCmpM (s : State) : Host.Outcome State Fault Refusal := .next (aluCmp (readR8 .m s) s)

/-- 0xBF CMP A (R184). -/
def execCmpA (s : State) : Host.Outcome State Fault Refusal := .next (aluCmp (readR8 (.reg .a) s) s)

/-- 0xC6 ADI d8 (R186). -/
def execAdi (v : Byte) (s : State) : Host.Outcome State Fault Refusal := .next (aluAdd v s)

/-- 0xCE ACI d8 (R187). -/
def execAci (v : Byte) (s : State) : Host.Outcome State Fault Refusal := .next (aluAdc v s)

/-- 0xD6 SUI d8 (R188). -/
def execSui (v : Byte) (s : State) : Host.Outcome State Fault Refusal := .next (aluSub v s)

/-- 0xDE SBI d8 (R189). -/
def execSbi (v : Byte) (s : State) : Host.Outcome State Fault Refusal := .next (aluSbb v s)

/-- 0xE6 ANI d8 (R190). -/
def execAni (v : Byte) (s : State) : Host.Outcome State Fault Refusal := .next (aluAna v s)

/-- 0xEE XRI d8 (R191). -/
def execXri (v : Byte) (s : State) : Host.Outcome State Fault Refusal := .next (aluXra v s)

/-- 0xF6 ORI d8 (R192). -/
def execOri (v : Byte) (s : State) : Host.Outcome State Fault Refusal := .next (aluOra v s)

/-- 0xFE CPI d8 (R193). -/
def execCpi (v : Byte) (s : State) : Host.Outcome State Fault Refusal := .next (aluCmp v s)

end Sys2Proof.Machine
end

