-- ==== Sys2Proof/Machine/ControlTransfer.lean ====
section
/-! DEFINITION. The control transfers (45_control_transfer.md R240 to R280). None writes a flag.
The state a meaning is given has PC past the instruction's bytes, as it stands once they are all
fetched (30_encoding.md R97, R98; log 1). -/

namespace Sys2Proof.Machine

/-- `PC <- target`, a control transfer (R240, R241). -/
def jumpTo (w : Word) (s : State) : State := { s with pc := w }

/-- Jcc (R242): not taken, PC is already past the instruction. -/
def jumpIf (ccc : Cond) (w : Word) (s : State) : State := if condHolds ccc s.flags then jumpTo w s else s

/-- CALL (R251): the return address, PC past the instruction, is pushed. -/
def callTo (w : Word) (s : State) : State := jumpTo w (push16 s.pc s)

/-- Ccc (R252): not taken, nothing is pushed. -/
def callIf (ccc : Cond) (w : Word) (s : State) : State := if condHolds ccc s.flags then callTo w s else s

/-- RET (R261): `PC <- Pop16()`. -/
def returnFrom (s : State) : State := jumpTo (popValue s) (dropStack s)

/-- Rcc (R262): not taken, nothing is popped. -/
def returnIf (ccc : Cond) (s : State) : State := if condHolds ccc s.flags then returnFrom s else s

/-- RST n (R271): a call of 8·n. -/
def restart (n : Nat) (s : State) : State := callTo (BitVec.ofNat 16 (8 * n)) s

/-- 0xC3 JMP a16 (R241). -/
def execJmp (w : Word) (s : State) : Host.Outcome State Fault Refusal := .next (jumpTo w s)

/-- 0xC2 JNZ a16 (R243). -/
def execJnz (w : Word) (s : State) : Host.Outcome State Fault Refusal := .next (jumpIf .nz w s)

/-- 0xCA JZ a16 (R244). -/
def execJz (w : Word) (s : State) : Host.Outcome State Fault Refusal := .next (jumpIf .z w s)

/-- 0xD2 JNC a16 (R245). -/
def execJnc (w : Word) (s : State) : Host.Outcome State Fault Refusal := .next (jumpIf .nc w s)

/-- 0xDA JC a16 (R246). -/
def execJc (w : Word) (s : State) : Host.Outcome State Fault Refusal := .next (jumpIf .c w s)

/-- 0xE2 JPO a16 (R247). -/
def execJpo (w : Word) (s : State) : Host.Outcome State Fault Refusal := .next (jumpIf .po w s)

/-- 0xEA JPE a16 (R248). -/
def execJpe (w : Word) (s : State) : Host.Outcome State Fault Refusal := .next (jumpIf .pe w s)

/-- 0xF2 JP a16 (R249). -/
def execJp (w : Word) (s : State) : Host.Outcome State Fault Refusal := .next (jumpIf .p w s)

/-- 0xFA JM a16 (R250). -/
def execJm (w : Word) (s : State) : Host.Outcome State Fault Refusal := .next (jumpIf .m w s)

/-- 0xCD CALL a16 (R251). -/
def execCall (w : Word) (s : State) : Host.Outcome State Fault Refusal := .next (callTo w s)

/-- 0xC4 CNZ a16 (R253). -/
def execCnz (w : Word) (s : State) : Host.Outcome State Fault Refusal := .next (callIf .nz w s)

/-- 0xCC CZ a16 (R254). -/
def execCz (w : Word) (s : State) : Host.Outcome State Fault Refusal := .next (callIf .z w s)

/-- 0xD4 CNC a16 (R255). -/
def execCnc (w : Word) (s : State) : Host.Outcome State Fault Refusal := .next (callIf .nc w s)

/-- 0xDC CC a16 (R256). -/
def execCc (w : Word) (s : State) : Host.Outcome State Fault Refusal := .next (callIf .c w s)

/-- 0xE4 CPO a16 (R257). -/
def execCpo (w : Word) (s : State) : Host.Outcome State Fault Refusal := .next (callIf .po w s)

/-- 0xEC CPE a16 (R258). -/
def execCpe (w : Word) (s : State) : Host.Outcome State Fault Refusal := .next (callIf .pe w s)

/-- 0xF4 CP a16 (R259). -/
def execCp (w : Word) (s : State) : Host.Outcome State Fault Refusal := .next (callIf .p w s)

/-- 0xFC CM a16 (R260). -/
def execCm (w : Word) (s : State) : Host.Outcome State Fault Refusal := .next (callIf .m w s)

/-- 0xC9 RET (R261). -/
def execRet (s : State) : Host.Outcome State Fault Refusal := .next (returnFrom s)

/-- 0xC0 RNZ (R263). -/
def execRnz (s : State) : Host.Outcome State Fault Refusal := .next (returnIf .nz s)

/-- 0xC8 RZ (R264). -/
def execRz (s : State) : Host.Outcome State Fault Refusal := .next (returnIf .z s)

/-- 0xD0 RNC (R265). -/
def execRnc (s : State) : Host.Outcome State Fault Refusal := .next (returnIf .nc s)

/-- 0xD8 RC (R266). -/
def execRc (s : State) : Host.Outcome State Fault Refusal := .next (returnIf .c s)

/-- 0xE0 RPO (R267). -/
def execRpo (s : State) : Host.Outcome State Fault Refusal := .next (returnIf .po s)

/-- 0xE8 RPE (R268). -/
def execRpe (s : State) : Host.Outcome State Fault Refusal := .next (returnIf .pe s)

/-- 0xF0 RP (R269). -/
def execRp (s : State) : Host.Outcome State Fault Refusal := .next (returnIf .p s)

/-- 0xF8 RM (R270). -/
def execRm (s : State) : Host.Outcome State Fault Refusal := .next (returnIf .m s)

/-- 0xC7 RST 0 (R272). -/
def execRst0 (s : State) : Host.Outcome State Fault Refusal := .next (restart 0 s)

/-- 0xCF RST 1 (R273). -/
def execRst1 (s : State) : Host.Outcome State Fault Refusal := .next (restart 1 s)

/-- 0xD7 RST 2 (R274). -/
def execRst2 (s : State) : Host.Outcome State Fault Refusal := .next (restart 2 s)

/-- 0xDF RST 3 (R275). -/
def execRst3 (s : State) : Host.Outcome State Fault Refusal := .next (restart 3 s)

/-- 0xE7 RST 4 (R276). -/
def execRst4 (s : State) : Host.Outcome State Fault Refusal := .next (restart 4 s)

/-- 0xEF RST 5 (R277). -/
def execRst5 (s : State) : Host.Outcome State Fault Refusal := .next (restart 5 s)

/-- 0xF7 RST 6 (R278). -/
def execRst6 (s : State) : Host.Outcome State Fault Refusal := .next (restart 6 s)

/-- 0xFF RST 7 (R279). -/
def execRst7 (s : State) : Host.Outcome State Fault Refusal := .next (restart 7 s)

/-- 0xE9 PCHL (R280). -/
def execPchl (s : State) : Host.Outcome State Fault Refusal := .next (jumpTo (hl s) s)

end Sys2Proof.Machine
end

