-- ==== Sys2Proof/Machine/DataMove.lean ====
section
/-! DEFINITION. The data move instructions (41_data_move.md R140 to R151). None writes a flag.
The state a meaning is given has PC past the instruction's bytes, as it stands once they are all
fetched (30_encoding.md R97, R98; log 1). -/

namespace Sys2Proof.Machine

/-- MOV r,r' (R140). -/
def movRegReg (dst src : Reg) (s : State) : State := regWrite dst (regRead src s) s

/-- MOV r,M (R141): the read is at the HL before the write. -/
def movRegMem (dst : Reg) (s : State) : State := regWrite dst (memRead (hl s) s) s

/-- MOV M,r (R142). -/
def movMemReg (src : Reg) (s : State) : State := memWrite (hl s) (regRead src s) s

/-- 0x40 MOV B,B (R140). -/
def execMovBB (s : State) : Host.Outcome State Fault Refusal := .next (movRegReg .b .b s)

/-- 0x41 MOV B,C (R140). -/
def execMovBC (s : State) : Host.Outcome State Fault Refusal := .next (movRegReg .b .c s)

/-- 0x42 MOV B,D (R140). -/
def execMovBD (s : State) : Host.Outcome State Fault Refusal := .next (movRegReg .b .d s)

/-- 0x43 MOV B,E (R140). -/
def execMovBE (s : State) : Host.Outcome State Fault Refusal := .next (movRegReg .b .e s)

/-- 0x44 MOV B,H (R140). -/
def execMovBH (s : State) : Host.Outcome State Fault Refusal := .next (movRegReg .b .h s)

/-- 0x45 MOV B,L (R140). -/
def execMovBL (s : State) : Host.Outcome State Fault Refusal := .next (movRegReg .b .l s)

/-- 0x46 MOV B,M (R141). -/
def execMovBM (s : State) : Host.Outcome State Fault Refusal := .next (movRegMem .b s)

/-- 0x47 MOV B,A (R140). -/
def execMovBA (s : State) : Host.Outcome State Fault Refusal := .next (movRegReg .b .a s)

/-- 0x48 MOV C,B (R140). -/
def execMovCB (s : State) : Host.Outcome State Fault Refusal := .next (movRegReg .c .b s)

/-- 0x49 MOV C,C (R140). -/
def execMovCC (s : State) : Host.Outcome State Fault Refusal := .next (movRegReg .c .c s)

/-- 0x4A MOV C,D (R140). -/
def execMovCD (s : State) : Host.Outcome State Fault Refusal := .next (movRegReg .c .d s)

/-- 0x4B MOV C,E (R140). -/
def execMovCE (s : State) : Host.Outcome State Fault Refusal := .next (movRegReg .c .e s)

/-- 0x4C MOV C,H (R140). -/
def execMovCH (s : State) : Host.Outcome State Fault Refusal := .next (movRegReg .c .h s)

/-- 0x4D MOV C,L (R140). -/
def execMovCL (s : State) : Host.Outcome State Fault Refusal := .next (movRegReg .c .l s)

/-- 0x4E MOV C,M (R141). -/
def execMovCM (s : State) : Host.Outcome State Fault Refusal := .next (movRegMem .c s)

/-- 0x4F MOV C,A (R140). -/
def execMovCA (s : State) : Host.Outcome State Fault Refusal := .next (movRegReg .c .a s)

/-- 0x50 MOV D,B (R140). -/
def execMovDB (s : State) : Host.Outcome State Fault Refusal := .next (movRegReg .d .b s)

/-- 0x51 MOV D,C (R140). -/
def execMovDC (s : State) : Host.Outcome State Fault Refusal := .next (movRegReg .d .c s)

/-- 0x52 MOV D,D (R140). -/
def execMovDD (s : State) : Host.Outcome State Fault Refusal := .next (movRegReg .d .d s)

/-- 0x53 MOV D,E (R140). -/
def execMovDE (s : State) : Host.Outcome State Fault Refusal := .next (movRegReg .d .e s)

/-- 0x54 MOV D,H (R140). -/
def execMovDH (s : State) : Host.Outcome State Fault Refusal := .next (movRegReg .d .h s)

/-- 0x55 MOV D,L (R140). -/
def execMovDL (s : State) : Host.Outcome State Fault Refusal := .next (movRegReg .d .l s)

/-- 0x56 MOV D,M (R141). -/
def execMovDM (s : State) : Host.Outcome State Fault Refusal := .next (movRegMem .d s)

/-- 0x57 MOV D,A (R140). -/
def execMovDA (s : State) : Host.Outcome State Fault Refusal := .next (movRegReg .d .a s)

/-- 0x58 MOV E,B (R140). -/
def execMovEB (s : State) : Host.Outcome State Fault Refusal := .next (movRegReg .e .b s)

/-- 0x59 MOV E,C (R140). -/
def execMovEC (s : State) : Host.Outcome State Fault Refusal := .next (movRegReg .e .c s)

/-- 0x5A MOV E,D (R140). -/
def execMovED (s : State) : Host.Outcome State Fault Refusal := .next (movRegReg .e .d s)

/-- 0x5B MOV E,E (R140). -/
def execMovEE (s : State) : Host.Outcome State Fault Refusal := .next (movRegReg .e .e s)

/-- 0x5C MOV E,H (R140). -/
def execMovEH (s : State) : Host.Outcome State Fault Refusal := .next (movRegReg .e .h s)

/-- 0x5D MOV E,L (R140). -/
def execMovEL (s : State) : Host.Outcome State Fault Refusal := .next (movRegReg .e .l s)

/-- 0x5E MOV E,M (R141). -/
def execMovEM (s : State) : Host.Outcome State Fault Refusal := .next (movRegMem .e s)

/-- 0x5F MOV E,A (R140). -/
def execMovEA (s : State) : Host.Outcome State Fault Refusal := .next (movRegReg .e .a s)

/-- 0x60 MOV H,B (R140). -/
def execMovHB (s : State) : Host.Outcome State Fault Refusal := .next (movRegReg .h .b s)

/-- 0x61 MOV H,C (R140). -/
def execMovHC (s : State) : Host.Outcome State Fault Refusal := .next (movRegReg .h .c s)

/-- 0x62 MOV H,D (R140). -/
def execMovHD (s : State) : Host.Outcome State Fault Refusal := .next (movRegReg .h .d s)

/-- 0x63 MOV H,E (R140). -/
def execMovHE (s : State) : Host.Outcome State Fault Refusal := .next (movRegReg .h .e s)

/-- 0x64 MOV H,H (R140). -/
def execMovHH (s : State) : Host.Outcome State Fault Refusal := .next (movRegReg .h .h s)

/-- 0x65 MOV H,L (R140). -/
def execMovHL (s : State) : Host.Outcome State Fault Refusal := .next (movRegReg .h .l s)

/-- 0x66 MOV H,M (R141). -/
def execMovHM (s : State) : Host.Outcome State Fault Refusal := .next (movRegMem .h s)

/-- 0x67 MOV H,A (R140). -/
def execMovHA (s : State) : Host.Outcome State Fault Refusal := .next (movRegReg .h .a s)

/-- 0x68 MOV L,B (R140). -/
def execMovLB (s : State) : Host.Outcome State Fault Refusal := .next (movRegReg .l .b s)

/-- 0x69 MOV L,C (R140). -/
def execMovLC (s : State) : Host.Outcome State Fault Refusal := .next (movRegReg .l .c s)

/-- 0x6A MOV L,D (R140). -/
def execMovLD (s : State) : Host.Outcome State Fault Refusal := .next (movRegReg .l .d s)

/-- 0x6B MOV L,E (R140). -/
def execMovLE (s : State) : Host.Outcome State Fault Refusal := .next (movRegReg .l .e s)

/-- 0x6C MOV L,H (R140). -/
def execMovLH (s : State) : Host.Outcome State Fault Refusal := .next (movRegReg .l .h s)

/-- 0x6D MOV L,L (R140). -/
def execMovLL (s : State) : Host.Outcome State Fault Refusal := .next (movRegReg .l .l s)

/-- 0x6E MOV L,M (R141). -/
def execMovLM (s : State) : Host.Outcome State Fault Refusal := .next (movRegMem .l s)

/-- 0x6F MOV L,A (R140). -/
def execMovLA (s : State) : Host.Outcome State Fault Refusal := .next (movRegReg .l .a s)

/-- 0x70 MOV M,B (R142). -/
def execMovMB (s : State) : Host.Outcome State Fault Refusal := .next (movMemReg .b s)

/-- 0x71 MOV M,C (R142). -/
def execMovMC (s : State) : Host.Outcome State Fault Refusal := .next (movMemReg .c s)

/-- 0x72 MOV M,D (R142). -/
def execMovMD (s : State) : Host.Outcome State Fault Refusal := .next (movMemReg .d s)

/-- 0x73 MOV M,E (R142). -/
def execMovME (s : State) : Host.Outcome State Fault Refusal := .next (movMemReg .e s)

/-- 0x74 MOV M,H (R142). -/
def execMovMH (s : State) : Host.Outcome State Fault Refusal := .next (movMemReg .h s)

/-- 0x75 MOV M,L (R142). -/
def execMovML (s : State) : Host.Outcome State Fault Refusal := .next (movMemReg .l s)

/-- 0x77 MOV M,A (R142). -/
def execMovMA (s : State) : Host.Outcome State Fault Refusal := .next (movMemReg .a s)

/-- 0x78 MOV A,B (R140). -/
def execMovAB (s : State) : Host.Outcome State Fault Refusal := .next (movRegReg .a .b s)

/-- 0x79 MOV A,C (R140). -/
def execMovAC (s : State) : Host.Outcome State Fault Refusal := .next (movRegReg .a .c s)

/-- 0x7A MOV A,D (R140). -/
def execMovAD (s : State) : Host.Outcome State Fault Refusal := .next (movRegReg .a .d s)

/-- 0x7B MOV A,E (R140). -/
def execMovAE (s : State) : Host.Outcome State Fault Refusal := .next (movRegReg .a .e s)

/-- 0x7C MOV A,H (R140). -/
def execMovAH (s : State) : Host.Outcome State Fault Refusal := .next (movRegReg .a .h s)

/-- 0x7D MOV A,L (R140). -/
def execMovAL (s : State) : Host.Outcome State Fault Refusal := .next (movRegReg .a .l s)

/-- 0x7E MOV A,M (R141). -/
def execMovAM (s : State) : Host.Outcome State Fault Refusal := .next (movRegMem .a s)

/-- 0x7F MOV A,A (R140). -/
def execMovAA (s : State) : Host.Outcome State Fault Refusal := .next (movRegReg .a .a s)

/-- 0x06 MVI B,d8 (R143). -/
def execMviB (v : Byte) (s : State) : Host.Outcome State Fault Refusal := .next (regWrite .b v s)

/-- 0x0E MVI C,d8 (R143). -/
def execMviC (v : Byte) (s : State) : Host.Outcome State Fault Refusal := .next (regWrite .c v s)

/-- 0x16 MVI D,d8 (R143). -/
def execMviD (v : Byte) (s : State) : Host.Outcome State Fault Refusal := .next (regWrite .d v s)

/-- 0x1E MVI E,d8 (R143). -/
def execMviE (v : Byte) (s : State) : Host.Outcome State Fault Refusal := .next (regWrite .e v s)

/-- 0x26 MVI H,d8 (R143). -/
def execMviH (v : Byte) (s : State) : Host.Outcome State Fault Refusal := .next (regWrite .h v s)

/-- 0x2E MVI L,d8 (R143). -/
def execMviL (v : Byte) (s : State) : Host.Outcome State Fault Refusal := .next (regWrite .l v s)

/-- 0x36 MVI M,d8 (R144). -/
def execMviM (v : Byte) (s : State) : Host.Outcome State Fault Refusal := .next (memWrite (hl s) v s)

/-- 0x3E MVI A,d8 (R143). -/
def execMviA (v : Byte) (s : State) : Host.Outcome State Fault Refusal := .next (regWrite .a v s)

/-- 0x01 LXI B,d16 (R145). -/
def execLxiB (w : Word) (s : State) : Host.Outcome State Fault Refusal := .next (setRP .bc w s)

/-- 0x11 LXI D,d16 (R145). -/
def execLxiD (w : Word) (s : State) : Host.Outcome State Fault Refusal := .next (setRP .de w s)

/-- 0x21 LXI H,d16 (R145). -/
def execLxiH (w : Word) (s : State) : Host.Outcome State Fault Refusal := .next (setRP .hl w s)

/-- 0x31 LXI SP,d16 (R145). -/
def execLxiSp (w : Word) (s : State) : Host.Outcome State Fault Refusal := .next (setRP .sp w s)

/-- 0x02 STAX B (R146). -/
def execStaxB (s : State) : Host.Outcome State Fault Refusal := .next (memWrite (getIndexPair .bc s) s.a s)

/-- 0x12 STAX D (R146). -/
def execStaxD (s : State) : Host.Outcome State Fault Refusal := .next (memWrite (getIndexPair .de s) s.a s)

/-- 0x0A LDAX B (R147). -/
def execLdaxB (s : State) : Host.Outcome State Fault Refusal := .next (regWrite .a (memRead (getIndexPair .bc s) s) s)

/-- 0x1A LDAX D (R147). -/
def execLdaxD (s : State) : Host.Outcome State Fault Refusal := .next (regWrite .a (memRead (getIndexPair .de s) s) s)

/-- 0x22 SHLD a16 (R148). -/
def execShld (w : Word) (s : State) : Host.Outcome State Fault Refusal := .next (write16 w (hl s) s)

/-- 0x2A LHLD a16 (R149). -/
def execLhld (w : Word) (s : State) : Host.Outcome State Fault Refusal := .next (setHl (read16 w s) s)

/-- 0x32 STA a16 (R150). -/
def execSta (w : Word) (s : State) : Host.Outcome State Fault Refusal := .next (memWrite w s.a s)

/-- 0x3A LDA a16 (R151). -/
def execLda (w : Word) (s : State) : Host.Outcome State Fault Refusal := .next (regWrite .a (memRead w s) s)

end Sys2Proof.Machine
end

