-- ==== Sys2Proof/Machine/IncDec.lean ====
section
/-! DEFINITION. Increment, decrement and 16-bit add (43_incdec_dad.md R200 to R206).
The state a meaning is given has PC past the instruction's bytes, as it stands once they are all
fetched (30_encoding.md R97, R98; log 1). -/

namespace Sys2Proof.Machine

/-- INR (R200, R201): CY is kept (R128). -/
def incOperand (x : Operand8) (s : State) : State :=
  let r := inc8 (readR8 x s) s.flags.cy
  { writeR8 x r.res s with flags := r.flags }

/-- DCR (R202, R203): CY is kept (R128). -/
def decOperand (x : Operand8) (s : State) : State :=
  let r := dec8 (readR8 x s) s.flags.cy
  { writeR8 x r.res s with flags := r.flags }

/-- INX (R204): no flag changes. -/
def incPair (p : RegPair) (s : State) : State := setRP p (getRP p s + 1) s

/-- DCX (R205): no flag changes. -/
def decPair (p : RegPair) (s : State) : State := setRP p (getRP p s - 1) s

/-- DAD (R206): of the flags only CY changes, to the 16-bit carry out. -/
def addPairToHl (p : RegPair) (s : State) : State :=
  let r := (hl s).toNat + (getRP p s).toNat
  setHl (BitVec.ofNat 16 r) { s with flags := { s.flags with cy := decide (r > 0xFFFF) } }

/-- 0x04 INR B (R200). -/
def execInrB (s : State) : Host.Outcome State Fault Refusal := .next (incOperand (.reg .b) s)

/-- 0x0C INR C (R200). -/
def execInrC (s : State) : Host.Outcome State Fault Refusal := .next (incOperand (.reg .c) s)

/-- 0x14 INR D (R200). -/
def execInrD (s : State) : Host.Outcome State Fault Refusal := .next (incOperand (.reg .d) s)

/-- 0x1C INR E (R200). -/
def execInrE (s : State) : Host.Outcome State Fault Refusal := .next (incOperand (.reg .e) s)

/-- 0x24 INR H (R200). -/
def execInrH (s : State) : Host.Outcome State Fault Refusal := .next (incOperand (.reg .h) s)

/-- 0x2C INR L (R200). -/
def execInrL (s : State) : Host.Outcome State Fault Refusal := .next (incOperand (.reg .l) s)

/-- 0x34 INR M (R201). -/
def execInrM (s : State) : Host.Outcome State Fault Refusal := .next (incOperand .m s)

/-- 0x3C INR A (R200). -/
def execInrA (s : State) : Host.Outcome State Fault Refusal := .next (incOperand (.reg .a) s)

/-- 0x05 DCR B (R202). -/
def execDcrB (s : State) : Host.Outcome State Fault Refusal := .next (decOperand (.reg .b) s)

/-- 0x0D DCR C (R202). -/
def execDcrC (s : State) : Host.Outcome State Fault Refusal := .next (decOperand (.reg .c) s)

/-- 0x15 DCR D (R202). -/
def execDcrD (s : State) : Host.Outcome State Fault Refusal := .next (decOperand (.reg .d) s)

/-- 0x1D DCR E (R202). -/
def execDcrE (s : State) : Host.Outcome State Fault Refusal := .next (decOperand (.reg .e) s)

/-- 0x25 DCR H (R202). -/
def execDcrH (s : State) : Host.Outcome State Fault Refusal := .next (decOperand (.reg .h) s)

/-- 0x2D DCR L (R202). -/
def execDcrL (s : State) : Host.Outcome State Fault Refusal := .next (decOperand (.reg .l) s)

/-- 0x35 DCR M (R203). -/
def execDcrM (s : State) : Host.Outcome State Fault Refusal := .next (decOperand .m s)

/-- 0x3D DCR A (R202). -/
def execDcrA (s : State) : Host.Outcome State Fault Refusal := .next (decOperand (.reg .a) s)

/-- 0x03 INX B (R204). -/
def execInxB (s : State) : Host.Outcome State Fault Refusal := .next (incPair .bc s)

/-- 0x13 INX D (R204). -/
def execInxD (s : State) : Host.Outcome State Fault Refusal := .next (incPair .de s)

/-- 0x23 INX H (R204). -/
def execInxH (s : State) : Host.Outcome State Fault Refusal := .next (incPair .hl s)

/-- 0x33 INX SP (R204). -/
def execInxSp (s : State) : Host.Outcome State Fault Refusal := .next (incPair .sp s)

/-- 0x0B DCX B (R205). -/
def execDcxB (s : State) : Host.Outcome State Fault Refusal := .next (decPair .bc s)

/-- 0x1B DCX D (R205). -/
def execDcxD (s : State) : Host.Outcome State Fault Refusal := .next (decPair .de s)

/-- 0x2B DCX H (R205). -/
def execDcxH (s : State) : Host.Outcome State Fault Refusal := .next (decPair .hl s)

/-- 0x3B DCX SP (R205). -/
def execDcxSp (s : State) : Host.Outcome State Fault Refusal := .next (decPair .sp s)

/-- 0x09 DAD B (R206). -/
def execDadB (s : State) : Host.Outcome State Fault Refusal := .next (addPairToHl .bc s)

/-- 0x19 DAD D (R206). -/
def execDadD (s : State) : Host.Outcome State Fault Refusal := .next (addPairToHl .de s)

/-- 0x29 DAD H (R206). -/
def execDadH (s : State) : Host.Outcome State Fault Refusal := .next (addPairToHl .hl s)

/-- 0x39 DAD SP (R206). -/
def execDadSp (s : State) : Host.Outcome State Fault Refusal := .next (addPairToHl .sp s)

end Sys2Proof.Machine
end

