-- ==== Sys2Proof/Machine/IoControl.lean ====
section
/-! DEFINITION. I/O, machine control and the undocumented opcodes (47_io_machine_control.md R310 to R319). None writes a flag.
The state a meaning is given has PC past the instruction's bytes, as it stands once they are all
fetched (30_encoding.md R97, R98; log 1). -/

namespace Sys2Proof.Machine

/-- 0xDB IN d8 (R310). -/
def execInPort (v : Byte) (s : State) : Host.Outcome State Fault Refusal := .next (regWrite .a (ioValue v s) (ioAfterIn v s))

/-- 0xD3 OUT d8 (R311). -/
def execOutPort (v : Byte) (s : State) : Host.Outcome State Fault Refusal := .next (ioOut v s.a s)

/-- 0x00 NOP (R312). -/
def execNop (s : State) : Host.Outcome State Fault Refusal := .next s

/-- 0x08 NOP* (R313). -/
def execNopAlias08 (s : State) : Host.Outcome State Fault Refusal := .next s

/-- 0x10 NOP* (R313). -/
def execNopAlias10 (s : State) : Host.Outcome State Fault Refusal := .next s

/-- 0x18 NOP* (R313). -/
def execNopAlias18 (s : State) : Host.Outcome State Fault Refusal := .next s

/-- 0x20 NOP* (R313). -/
def execNopAlias20 (s : State) : Host.Outcome State Fault Refusal := .next s

/-- 0x28 NOP* (R313). -/
def execNopAlias28 (s : State) : Host.Outcome State Fault Refusal := .next s

/-- 0x30 NOP* (R313). -/
def execNopAlias30 (s : State) : Host.Outcome State Fault Refusal := .next s

/-- 0x38 NOP* (R313). -/
def execNopAlias38 (s : State) : Host.Outcome State Fault Refusal := .next s

/-- 0x76 HLT (R314). -/
def execHlt (s : State) : Host.Outcome State Fault Refusal := .next ({ s with halted := true })

/-- 0xCB JMP* a16 (R315). -/
def execJmpAlias (w : Word) (s : State) : Host.Outcome State Fault Refusal := .next (jumpTo w s)

/-- 0xD9 RET* (R316). -/
def execRetAlias (s : State) : Host.Outcome State Fault Refusal := .next (returnFrom s)

/-- 0xDD CALL* a16 (R317). -/
def execCallAliasDD (w : Word) (s : State) : Host.Outcome State Fault Refusal := .next (callTo w s)

/-- 0xED CALL* a16 (R317). -/
def execCallAliasED (w : Word) (s : State) : Host.Outcome State Fault Refusal := .next (callTo w s)

/-- 0xFD CALL* a16 (R317). -/
def execCallAliasFD (w : Word) (s : State) : Host.Outcome State Fault Refusal := .next (callTo w s)

/-- 0xFB EI (R318). -/
def execEi (s : State) : Host.Outcome State Fault Refusal := .next s

/-- 0xF3 DI (R319). -/
def execDi (s : State) : Host.Outcome State Fault Refusal := .next s

end Sys2Proof.Machine
end

