-- ==== Sys2Proof/Machine/RotateSpecial.lean ====
section
/-! DEFINITION. The rotates, DAA, CMA, STC and CMC (44_rotate_special.md R220 to R227).
The state a meaning is given has PC past the instruction's bytes, as it stands once they are all
fetched (30_encoding.md R97, R98; log 1). -/

namespace Sys2Proof.Machine

/-- CY written, every other flag left. -/
def setCy (x : Bool) (s : State) : State := { s with flags := { s.flags with cy := x } }

/-- A rotated left, bit 0 being given (R220, R222): CY ← old bit 7. -/
def rotateLeft (bit0 : Bool) (s : State) : State :=
  setCy (s.a.getLsbD 7) { s with a := BitVec.ofNat 8 (s.a.toNat * 2 + bit bit0) }

/-- A rotated right, bit 7 being given (R221, R223): CY ← old bit 0. -/
def rotateRight (bit7 : Bool) (s : State) : State :=
  setCy (s.a.getLsbD 0) { s with a := BitVec.ofNat 8 (s.a.toNat / 2 + bit bit7 * 128) }

/-- DAA (R224). -/
def decimalAdjust (s : State) : State :=
  let r := daa8 s.a s.flags
  { s with a := r.res, flags := r.flags }

/-- 0x07 RLC (R220). -/
def execRlc (s : State) : Host.Outcome State Fault Refusal := .next (rotateLeft (s.a.getLsbD 7) s)

/-- 0x0F RRC (R221). -/
def execRrc (s : State) : Host.Outcome State Fault Refusal := .next (rotateRight (s.a.getLsbD 0) s)

/-- 0x17 RAL (R222). -/
def execRal (s : State) : Host.Outcome State Fault Refusal := .next (rotateLeft s.flags.cy s)

/-- 0x1F RAR (R223). -/
def execRar (s : State) : Host.Outcome State Fault Refusal := .next (rotateRight s.flags.cy s)

/-- 0x27 DAA (R224). -/
def execDaa (s : State) : Host.Outcome State Fault Refusal := .next (decimalAdjust s)

/-- 0x2F CMA (R225). -/
def execCma (s : State) : Host.Outcome State Fault Refusal := .next ({ s with a := ~~~s.a })

/-- 0x37 STC (R226). -/
def execStc (s : State) : Host.Outcome State Fault Refusal := .next (setCy true s)

/-- 0x3F CMC (R227). -/
def execCmc (s : State) : Host.Outcome State Fault Refusal := .next (setCy (!s.flags.cy) s)

end Sys2Proof.Machine
end

