-- ==== Sys2Proof/Machine/StackExchange.lean ====
section
/-! DEFINITION. The stack and exchange instructions (46_stack_exchange.md R292 to R298).
The state a meaning is given has PC past the instruction's bytes, as it stands once they are all
fetched (30_encoding.md R97, R98; log 1). -/

namespace Sys2Proof.Machine

/-- PUSH (R292, R293). -/
def pushPair (p : StackPair) (s : State) : State := push16 (getStackPair p s) s

/-- POP (R294, R295): the pair is loaded from the stack as it was, then SP has moved. -/
def popPair (p : StackPair) (s : State) : State := setStackPair p (popValue s) (dropStack s)

/-- XTHL (R297): both bytes are read before either is written; SP stays. -/
def exchangeTop (s : State) : State :=
  let v := read16 s.sp s
  setHl v (write16 s.sp (hl s) s)

/-- 0xC5 PUSH B (R292). -/
def execPushB (s : State) : Host.Outcome State Fault Refusal := .next (pushPair .bc s)

/-- 0xD5 PUSH D (R292). -/
def execPushD (s : State) : Host.Outcome State Fault Refusal := .next (pushPair .de s)

/-- 0xE5 PUSH H (R292). -/
def execPushH (s : State) : Host.Outcome State Fault Refusal := .next (pushPair .hl s)

/-- 0xF5 PUSH PSW (R293). -/
def execPushPsw (s : State) : Host.Outcome State Fault Refusal := .next (pushPair .psw s)

/-- 0xC1 POP B (R294). -/
def execPopB (s : State) : Host.Outcome State Fault Refusal := .next (popPair .bc s)

/-- 0xD1 POP D (R294). -/
def execPopD (s : State) : Host.Outcome State Fault Refusal := .next (popPair .de s)

/-- 0xE1 POP H (R294). -/
def execPopH (s : State) : Host.Outcome State Fault Refusal := .next (popPair .hl s)

/-- 0xF1 POP PSW (R295). -/
def execPopPsw (s : State) : Host.Outcome State Fault Refusal := .next (popPair .psw s)

/-- 0xEB XCHG (R296). -/
def execXchg (s : State) : Host.Outcome State Fault Refusal := .next (setHl (de s) (setDe (hl s) s))

/-- 0xE3 XTHL (R297). -/
def execXthl (s : State) : Host.Outcome State Fault Refusal := .next (exchangeTop s)

/-- 0xF9 SPHL (R298). -/
def execSphl (s : State) : Host.Outcome State Fault Refusal := .next ({ s with sp := hl s })

end Sys2Proof.Machine
end

