-- ==== Sys2Proof/Machine/Step.lean ====
section
/-! DEFINITION. One step of the core (70_reset_and_hazards.md R362, R364). -/

namespace Sys2Proof.Machine

/-- `step` (R362): "Executes exactly one instruction (or is a no-op in halted)". The instruction is fetched whole, PC past
its bytes, and then its meaning runs (R98, R80; log 1). -/
def step (s : State) : Host.Outcome State Fault Refusal :=
  if s.halted then .next s else exec (fetchInstr s).1 (fetchInstr s).2

/-- `s` with the instruction of a word of spec/opcode_table.json stored at PC, where `step` fetches next, and running, since
a halted core fetches nothing (R364). Log 8. -/
def State.withFetchWord (s : State) (nbits w : Nat) : State :=
  storeBytes s.pc (tableBytes nbits w) { s with halted := false }

end Sys2Proof.Machine
end

