-- ==== Sys2Proof/Machine/HostOps.lean ====
section
/-! DEFINITION. The host's operations on the core (70_reset_and_hazards.md R360 to R375), each a function on the state. The
host calls them between steps (R361); `step` itself is in Machine/Step.lean. A number the host gives is an integer,
"taken mod 2^16" or "mod 2^8" (R367). Log 9. -/

namespace Sys2Proof.Machine

/-- A host value masked to 8 bits (R367). -/
def maskByte (v : Int) : Byte := BitVec.ofInt 8 v

/-- A host value masked to 16 bits (R367). -/
def maskWord (v : Int) : Word := BitVec.ofInt 16 v

/-- `reset` (R360): every piece of state at its reset value; the I/O attachment is kept. `io_trace` is an observation that
a reset does not cut (R360; log 3), and the draws go on being numbered (log 2). -/
def hostReset (s : State) : State :=
  { State.reset with io := s.io, ioDraws := s.ioDraws, ioTrace := s.ioTrace }

/-- `run(n)` (R363): step up to `n` times, stopping early when halted, with the count of instructions retired. -/
def run : Nat → State → Host.Outcome (State × Nat) Fault Refusal
  | 0, s => .next (s, 0)
  | n + 1, s =>
    if s.halted then .next (s, 0)
    else
      match step s with
      | .next t =>
        match run n t with
        | .next (u, k) => .next (u, k + 1)
        | .fault r => .fault r
        | .refused r => .refused r
      | .fault r => .fault r
      | .refused r => .refused r

/-- `peek(addr)` (R366). -/
def peek (addr : Int) (s : State) : Byte := memRead (maskWord addr) s

/-- `poke(addr, byte)` (R368). -/
def poke (addr byte : Int) (s : State) : State := memWrite (maskWord addr) (maskByte byte) s

/-- `load(base, bytes)` (R369): `bytes[i]` at `(base + i) mod 2^16`, in index order. -/
def load (base : Int) (bytes : List Int) (s : State) : State := storeBytes (maskWord base) (bytes.map maskByte) s

/-- The names `read_register` and `write_register` take (R370 to R372). -/
inductive RegName where
  | a | b | c | d | e | h | l | sp | pc | flags | bc | de | hl | psw
deriving DecidableEq, Repr

/-- `read_register(name)` (R370, R371), as a number. -/
def readRegister (n : RegName) (s : State) : Nat :=
  match n with
  | .a => s.a.toNat
  | .b => s.b.toNat
  | .c => s.c.toNat
  | .d => s.d.toNat
  | .e => s.e.toNat
  | .h => s.h.toNat
  | .l => s.l.toNat
  | .sp => s.sp.toNat
  | .pc => s.pc.toNat
  | .flags => (flagByte s.flags).toNat
  | .bc => (bc s).toNat
  | .de => (de s).toNat
  | .hl => (hl s).toNat
  | .psw => (psw s).toNat

/-- `write_register(name, v)` (R372): masked to the register's width; FLAGS and PSW force the fixed bits. -/
def writeRegister (n : RegName) (v : Int) (s : State) : State :=
  match n with
  | .a => regWrite .a (maskByte v) s
  | .b => regWrite .b (maskByte v) s
  | .c => regWrite .c (maskByte v) s
  | .d => regWrite .d (maskByte v) s
  | .e => regWrite .e (maskByte v) s
  | .h => regWrite .h (maskByte v) s
  | .l => regWrite .l (maskByte v) s
  | .sp => { s with sp := maskWord v }
  | .pc => { s with pc := maskWord v }
  | .flags => { s with flags := flagsOfByte (maskByte v) }
  | .bc => setBc (maskWord v) s
  | .de => setDe (maskWord v) s
  | .hl => setHl (maskWord v) s
  | .psw => setPsw (maskWord v) s

/-- The names `flag` and `set_flag` take (R373). -/
inductive FlagName where
  | s | z | ac | p | cy
deriving DecidableEq, Repr

/-- A flag by its name. -/
def getFlag (k : FlagName) (f : Flags) : Bool :=
  match k with
  | .s => f.s
  | .z => f.z
  | .ac => f.ac
  | .p => f.p
  | .cy => f.cy

/-- `flag(kind)` (R373). -/
def readFlag (k : FlagName) (s : State) : Bool := getFlag k s.flags

/-- `set_flag(kind, b)` (R373): only the named flag changes. -/
def setFlag (k : FlagName) (x : Bool) (s : State) : State :=
  match k with
  | .s => { s with flags := { s.flags with s := x } }
  | .z => { s with flags := { s.flags with z := x } }
  | .ac => { s with flags := { s.flags with ac := x } }
  | .p => { s with flags := { s.flags with p := x } }
  | .cy => { s with flags := { s.flags with cy := x } }

/-- `attach_io(in_fn, out_fn)` (R374): the device the host attaches, under its number, replaces what was attached. -/
def attachIo (id : Nat) (s : State) : State := { s with io := .device id }

end Sys2Proof.Machine
end

