-- ==== Sys2Proof/Safety.lean ====
section
/-! DEFINITION. What the spec says of whole runs and of all instructions at once: the invariant of 10_state.md R34, the end
of a run and a hang (60_exceptions.md R344, R345), and the spec's tables of what each instruction touches (10_state.md R22,
R25, R29; 20_memory.md R69; 70_reset_and_hazards.md R382), instruction by instruction. The tables are written from those
rules, not from the meanings; claims compare the two. -/

namespace Sys2Proof.Machine

/-! ## Runs -/

/-- The invariant of R34. The ranges of registers and bytes and the fixed bits of the flag byte hold by the types of `State`
and by `flagByte`; what is left is that memory is 65,536 bytes, held in its one form. -/
abbrev Inv (s : State) : Prop := s.mem.wf

/-- A run has ended when the core is halted, and only then (R345). -/
def RunEnded (s : State) : Prop := s.halted = true

/-- A hang: a running core that never reaches HLT (R344). -/
def Hangs (s : State) : Prop := ∀ n t k, run n s = .next (t, k) → t.halted = false

/-- A state a run may pass through: a step from it faults or refuses never (R330, R344). -/
def Safe (s : State) : Prop := ∃ t, step s = .next t

end Sys2Proof.Machine

namespace Sys2Proof
open Machine

/-! ## What each instruction touches -/

/-- The general registers an instruction writes (R22, "written by"). -/
def Instr.regsWritten : Instr → List Reg
  | .lxiB _ | .inxB | .dcxB | .popB => [.b, .c]
  | .inrB | .dcrB | .mviB _ | .movBB | .movBC | .movBD | .movBE | .movBH | .movBL | .movBM | .movBA => [.b]
  | .rlc | .ldaxB | .rrc | .ral | .ldaxD | .rar | .daa | .cma | .lda _ | .inrA | .dcrA | .mviA _ | .movAB | .movAC
  | .movAD | .movAE | .movAH | .movAL | .movAM | .movAA | .addB | .addC | .addD | .addE | .addH | .addL | .addM
  | .addA | .adcB | .adcC | .adcD | .adcE | .adcH | .adcL | .adcM | .adcA | .subB | .subC | .subD | .subE | .subH
  | .subL | .subM | .subA | .sbbB | .sbbC | .sbbD | .sbbE | .sbbH | .sbbL | .sbbM | .sbbA | .anaB | .anaC | .anaD
  | .anaE | .anaH | .anaL | .anaM | .anaA | .xraB | .xraC | .xraD | .xraE | .xraH | .xraL | .xraM | .xraA | .oraB
  | .oraC | .oraD | .oraE | .oraH | .oraL | .oraM | .oraA | .adi _ | .aci _ | .sui _ | .inPort _ | .sbi _ | .ani _
  | .xri _ | .popPsw | .ori _ => [.a]
  | .dadB | .dadD | .lxiH _ | .inxH | .dadH | .lhld _ | .dcxH | .dadSp | .popH | .xthl => [.h, .l]
  | .inrC | .dcrC | .mviC _ | .movCB | .movCC | .movCD | .movCE | .movCH | .movCL | .movCM | .movCA => [.c]
  | .lxiD _ | .inxD | .dcxD | .popD => [.d, .e]
  | .inrD | .dcrD | .mviD _ | .movDB | .movDC | .movDD | .movDE | .movDH | .movDL | .movDM | .movDA => [.d]
  | .inrE | .dcrE | .mviE _ | .movEB | .movEC | .movED | .movEE | .movEH | .movEL | .movEM | .movEA => [.e]
  | .inrH | .dcrH | .mviH _ | .movHB | .movHC | .movHD | .movHE | .movHH | .movHL | .movHM | .movHA => [.h]
  | .inrL | .dcrL | .mviL _ | .movLB | .movLC | .movLD | .movLE | .movLH | .movLL | .movLM | .movLA => [.l]
  | .xchg => [.d, .e, .h, .l]
  | .nop | .staxB | .nopAlias08 | .nopAlias10 | .staxD | .nopAlias18 | .nopAlias20 | .shld _ | .nopAlias28
  | .nopAlias30 | .lxiSp _ | .sta _ | .inxSp | .inrM | .dcrM | .mviM _ | .stc | .nopAlias38 | .dcxSp | .cmc
  | .movMB | .movMC | .movMD | .movME | .movMH | .movML | .hlt | .movMA | .cmpB | .cmpC | .cmpD | .cmpE | .cmpH
  | .cmpL | .cmpM | .cmpA | .rnz | .jnz _ | .jmp _ | .cnz _ | .pushB | .rst0 | .rz | .ret | .jz _ | .jmpAlias _
  | .cz _ | .call _ | .rst1 | .rnc | .jnc _ | .outPort _ | .cnc _ | .pushD | .rst2 | .rc | .retAlias | .jc _
  | .cc _ | .callAliasDD _ | .rst3 | .rpo | .jpo _ | .cpo _ | .pushH | .rst4 | .rpe | .pchl | .jpe _ | .cpe _
  | .callAliasED _ | .rst5 | .rp | .jp _ | .di | .cp _ | .pushPsw | .rst6 | .rm | .sphl | .jm _ | .ei | .cm _
  | .callAliasFD _ | .cpi _ | .rst7 => []

/-- Whether an instruction writes SP (R25), the flags being `f` (a conditional call or return writes it when taken). -/
def Instr.spWritten (i : Instr) (f : Flags) : Bool :=
  match i with
  | .lxiSp _ | .inxSp | .dcxSp | .popB | .pushB | .rst0 | .ret | .call _ | .rst1 | .popD | .pushD | .rst2
  | .retAlias | .callAliasDD _ | .rst3 | .popH | .pushH | .rst4 | .callAliasED _ | .rst5 | .popPsw | .pushPsw
  | .rst6 | .sphl | .callAliasFD _ | .rst7 => true
  | .rnz | .cnz _ => condHolds .nz f
  | .rz | .cz _ => condHolds .z f
  | .rnc | .cnc _ => condHolds .nc f
  | .rc | .cc _ => condHolds .c f
  | .rpo | .cpo _ => condHolds .po f
  | .rpe | .cpe _ => condHolds .pe f
  | .rp | .cp _ => condHolds .p f
  | .rm | .cm _ => condHolds .m f
  | .nop | .lxiB _ | .staxB | .inxB | .inrB | .dcrB | .mviB _ | .rlc | .nopAlias08 | .dadB | .ldaxB | .dcxB | .inrC
  | .dcrC | .mviC _ | .rrc | .nopAlias10 | .lxiD _ | .staxD | .inxD | .inrD | .dcrD | .mviD _ | .ral | .nopAlias18
  | .dadD | .ldaxD | .dcxD | .inrE | .dcrE | .mviE _ | .rar | .nopAlias20 | .lxiH _ | .shld _ | .inxH | .inrH
  | .dcrH | .mviH _ | .daa | .nopAlias28 | .dadH | .lhld _ | .dcxH | .inrL | .dcrL | .mviL _ | .cma | .nopAlias30
  | .sta _ | .inrM | .dcrM | .mviM _ | .stc | .nopAlias38 | .dadSp | .lda _ | .inrA | .dcrA | .mviA _ | .cmc
  | .movBB | .movBC | .movBD | .movBE | .movBH | .movBL | .movBM | .movBA | .movCB | .movCC | .movCD | .movCE
  | .movCH | .movCL | .movCM | .movCA | .movDB | .movDC | .movDD | .movDE | .movDH | .movDL | .movDM | .movDA
  | .movEB | .movEC | .movED | .movEE | .movEH | .movEL | .movEM | .movEA | .movHB | .movHC | .movHD | .movHE
  | .movHH | .movHL | .movHM | .movHA | .movLB | .movLC | .movLD | .movLE | .movLH | .movLL | .movLM | .movLA
  | .movMB | .movMC | .movMD | .movME | .movMH | .movML | .hlt | .movMA | .movAB | .movAC | .movAD | .movAE
  | .movAH | .movAL | .movAM | .movAA | .addB | .addC | .addD | .addE | .addH | .addL | .addM | .addA | .adcB
  | .adcC | .adcD | .adcE | .adcH | .adcL | .adcM | .adcA | .subB | .subC | .subD | .subE | .subH | .subL | .subM
  | .subA | .sbbB | .sbbC | .sbbD | .sbbE | .sbbH | .sbbL | .sbbM | .sbbA | .anaB | .anaC | .anaD | .anaE | .anaH
  | .anaL | .anaM | .anaA | .xraB | .xraC | .xraD | .xraE | .xraH | .xraL | .xraM | .xraA | .oraB | .oraC | .oraD
  | .oraE | .oraH | .oraL | .oraM | .oraA | .cmpB | .cmpC | .cmpD | .cmpE | .cmpH | .cmpL | .cmpM | .cmpA | .jnz _
  | .jmp _ | .adi _ | .jz _ | .jmpAlias _ | .aci _ | .jnc _ | .outPort _ | .sui _ | .jc _ | .inPort _ | .sbi _
  | .jpo _ | .xthl | .ani _ | .pchl | .jpe _ | .xchg | .xri _ | .jp _ | .di | .ori _ | .jm _ | .ei | .cpi _ => false

/-- The flags an instruction writes (R29, "written by"; R137). -/
def Instr.flagsWritten : Instr → List FlagName
  | .inrB | .dcrB | .inrC | .dcrC | .inrD | .dcrD | .inrE | .dcrE | .inrH | .dcrH | .inrL | .dcrL | .inrM | .dcrM
  | .inrA | .dcrA => [.s, .z, .ac, .p]
  | .rlc | .dadB | .rrc | .ral | .dadD | .rar | .dadH | .stc | .dadSp | .cmc => [.cy]
  | .daa | .addB | .addC | .addD | .addE | .addH | .addL | .addM | .addA | .adcB | .adcC | .adcD | .adcE | .adcH
  | .adcL | .adcM | .adcA | .subB | .subC | .subD | .subE | .subH | .subL | .subM | .subA | .sbbB | .sbbC | .sbbD
  | .sbbE | .sbbH | .sbbL | .sbbM | .sbbA | .anaB | .anaC | .anaD | .anaE | .anaH | .anaL | .anaM | .anaA | .xraB
  | .xraC | .xraD | .xraE | .xraH | .xraL | .xraM | .xraA | .oraB | .oraC | .oraD | .oraE | .oraH | .oraL | .oraM
  | .oraA | .cmpB | .cmpC | .cmpD | .cmpE | .cmpH | .cmpL | .cmpM | .cmpA | .adi _ | .aci _ | .sui _ | .sbi _
  | .ani _ | .xri _ | .popPsw | .ori _ | .cpi _ => [.s, .z, .ac, .p, .cy]
  | .nop | .lxiB _ | .staxB | .inxB | .mviB _ | .nopAlias08 | .ldaxB | .dcxB | .mviC _ | .nopAlias10 | .lxiD _
  | .staxD | .inxD | .mviD _ | .nopAlias18 | .ldaxD | .dcxD | .mviE _ | .nopAlias20 | .lxiH _ | .shld _ | .inxH
  | .mviH _ | .nopAlias28 | .lhld _ | .dcxH | .mviL _ | .cma | .nopAlias30 | .lxiSp _ | .sta _ | .inxSp | .mviM _
  | .nopAlias38 | .lda _ | .dcxSp | .mviA _ | .movBB | .movBC | .movBD | .movBE | .movBH | .movBL | .movBM | .movBA
  | .movCB | .movCC | .movCD | .movCE | .movCH | .movCL | .movCM | .movCA | .movDB | .movDC | .movDD | .movDE
  | .movDH | .movDL | .movDM | .movDA | .movEB | .movEC | .movED | .movEE | .movEH | .movEL | .movEM | .movEA
  | .movHB | .movHC | .movHD | .movHE | .movHH | .movHL | .movHM | .movHA | .movLB | .movLC | .movLD | .movLE
  | .movLH | .movLL | .movLM | .movLA | .movMB | .movMC | .movMD | .movME | .movMH | .movML | .hlt | .movMA
  | .movAB | .movAC | .movAD | .movAE | .movAH | .movAL | .movAM | .movAA | .rnz | .popB | .jnz _ | .jmp _ | .cnz _
  | .pushB | .rst0 | .rz | .ret | .jz _ | .jmpAlias _ | .cz _ | .call _ | .rst1 | .rnc | .popD | .jnc _
  | .outPort _ | .cnc _ | .pushD | .rst2 | .rc | .retAlias | .jc _ | .inPort _ | .cc _ | .callAliasDD _ | .rst3
  | .rpo | .popH | .jpo _ | .xthl | .cpo _ | .pushH | .rst4 | .rpe | .pchl | .jpe _ | .xchg | .cpe _
  | .callAliasED _ | .rst5 | .rp | .jp _ | .di | .cp _ | .pushPsw | .rst6 | .rm | .sphl | .jm _ | .ei | .cm _
  | .callAliasFD _ | .rst7 => []

/-- The flags an instruction reads (R29, "read by"). -/
def Instr.flagsRead : Instr → List FlagName
  | .ral | .rar | .cmc | .adcB | .adcC | .adcD | .adcE | .adcH | .adcL | .adcM | .adcA | .sbbB | .sbbC | .sbbD
  | .sbbE | .sbbH | .sbbL | .sbbM | .sbbA | .aci _ | .rnc | .jnc _ | .cnc _ | .rc | .jc _ | .cc _ | .sbi _ => [.cy]
  | .daa => [.ac, .cy]
  | .rnz | .jnz _ | .cnz _ | .rz | .jz _ | .cz _ => [.z]
  | .rpo | .jpo _ | .cpo _ | .rpe | .jpe _ | .cpe _ => [.p]
  | .rp | .jp _ | .cp _ | .rm | .jm _ | .cm _ => [.s]
  | .pushPsw => [.s, .z, .ac, .p, .cy]
  | .nop | .lxiB _ | .staxB | .inxB | .inrB | .dcrB | .mviB _ | .rlc | .nopAlias08 | .dadB | .ldaxB | .dcxB | .inrC
  | .dcrC | .mviC _ | .rrc | .nopAlias10 | .lxiD _ | .staxD | .inxD | .inrD | .dcrD | .mviD _ | .nopAlias18 | .dadD
  | .ldaxD | .dcxD | .inrE | .dcrE | .mviE _ | .nopAlias20 | .lxiH _ | .shld _ | .inxH | .inrH | .dcrH | .mviH _
  | .nopAlias28 | .dadH | .lhld _ | .dcxH | .inrL | .dcrL | .mviL _ | .cma | .nopAlias30 | .lxiSp _ | .sta _
  | .inxSp | .inrM | .dcrM | .mviM _ | .stc | .nopAlias38 | .dadSp | .lda _ | .dcxSp | .inrA | .dcrA | .mviA _
  | .movBB | .movBC | .movBD | .movBE | .movBH | .movBL | .movBM | .movBA | .movCB | .movCC | .movCD | .movCE
  | .movCH | .movCL | .movCM | .movCA | .movDB | .movDC | .movDD | .movDE | .movDH | .movDL | .movDM | .movDA
  | .movEB | .movEC | .movED | .movEE | .movEH | .movEL | .movEM | .movEA | .movHB | .movHC | .movHD | .movHE
  | .movHH | .movHL | .movHM | .movHA | .movLB | .movLC | .movLD | .movLE | .movLH | .movLL | .movLM | .movLA
  | .movMB | .movMC | .movMD | .movME | .movMH | .movML | .hlt | .movMA | .movAB | .movAC | .movAD | .movAE
  | .movAH | .movAL | .movAM | .movAA | .addB | .addC | .addD | .addE | .addH | .addL | .addM | .addA | .subB
  | .subC | .subD | .subE | .subH | .subL | .subM | .subA | .anaB | .anaC | .anaD | .anaE | .anaH | .anaL | .anaM
  | .anaA | .xraB | .xraC | .xraD | .xraE | .xraH | .xraL | .xraM | .xraA | .oraB | .oraC | .oraD | .oraE | .oraH
  | .oraL | .oraM | .oraA | .cmpB | .cmpC | .cmpD | .cmpE | .cmpH | .cmpL | .cmpM | .cmpA | .popB | .jmp _ | .pushB
  | .adi _ | .rst0 | .ret | .jmpAlias _ | .call _ | .rst1 | .popD | .outPort _ | .pushD | .sui _ | .rst2
  | .retAlias | .inPort _ | .callAliasDD _ | .rst3 | .popH | .xthl | .pushH | .ani _ | .rst4 | .pchl | .xchg
  | .callAliasED _ | .xri _ | .rst5 | .popPsw | .di | .ori _ | .rst6 | .sphl | .ei | .callAliasFD _ | .cpi _
  | .rst7 => []

/-- The addresses an instruction stores to (R69, "writes"), in the state its meaning starts from. -/
def Instr.storedAddrs (i : Instr) (s : State) : List Word :=
  match i with
  | .staxB => [bc s]
  | .staxD => [de s]
  | .shld w => [w, w + 1]
  | .sta w => [w]
  | .inrM | .dcrM | .mviM _ | .movMB | .movMC | .movMD | .movME | .movMH | .movML | .movMA => [hl s]
  | .cnz _ => if condHolds .nz s.flags then [s.sp - 1, s.sp - 2] else []
  | .pushB | .rst0 | .call _ | .rst1 | .pushD | .rst2 | .callAliasDD _ | .rst3 | .pushH | .rst4 | .callAliasED _
  | .rst5 | .pushPsw | .rst6 | .callAliasFD _ | .rst7 => [s.sp - 1, s.sp - 2]
  | .cz _ => if condHolds .z s.flags then [s.sp - 1, s.sp - 2] else []
  | .cnc _ => if condHolds .nc s.flags then [s.sp - 1, s.sp - 2] else []
  | .cc _ => if condHolds .c s.flags then [s.sp - 1, s.sp - 2] else []
  | .xthl => [s.sp, s.sp + 1]
  | .cpo _ => if condHolds .po s.flags then [s.sp - 1, s.sp - 2] else []
  | .cpe _ => if condHolds .pe s.flags then [s.sp - 1, s.sp - 2] else []
  | .cp _ => if condHolds .p s.flags then [s.sp - 1, s.sp - 2] else []
  | .cm _ => if condHolds .m s.flags then [s.sp - 1, s.sp - 2] else []
  | .nop | .lxiB _ | .inxB | .inrB | .dcrB | .mviB _ | .rlc | .nopAlias08 | .dadB | .ldaxB | .dcxB | .inrC | .dcrC
  | .mviC _ | .rrc | .nopAlias10 | .lxiD _ | .inxD | .inrD | .dcrD | .mviD _ | .ral | .nopAlias18 | .dadD | .ldaxD
  | .dcxD | .inrE | .dcrE | .mviE _ | .rar | .nopAlias20 | .lxiH _ | .inxH | .inrH | .dcrH | .mviH _ | .daa
  | .nopAlias28 | .dadH | .lhld _ | .dcxH | .inrL | .dcrL | .mviL _ | .cma | .nopAlias30 | .lxiSp _ | .inxSp | .stc
  | .nopAlias38 | .dadSp | .lda _ | .dcxSp | .inrA | .dcrA | .mviA _ | .cmc | .movBB | .movBC | .movBD | .movBE
  | .movBH | .movBL | .movBM | .movBA | .movCB | .movCC | .movCD | .movCE | .movCH | .movCL | .movCM | .movCA
  | .movDB | .movDC | .movDD | .movDE | .movDH | .movDL | .movDM | .movDA | .movEB | .movEC | .movED | .movEE
  | .movEH | .movEL | .movEM | .movEA | .movHB | .movHC | .movHD | .movHE | .movHH | .movHL | .movHM | .movHA
  | .movLB | .movLC | .movLD | .movLE | .movLH | .movLL | .movLM | .movLA | .hlt | .movAB | .movAC | .movAD
  | .movAE | .movAH | .movAL | .movAM | .movAA | .addB | .addC | .addD | .addE | .addH | .addL | .addM | .addA
  | .adcB | .adcC | .adcD | .adcE | .adcH | .adcL | .adcM | .adcA | .subB | .subC | .subD | .subE | .subH | .subL
  | .subM | .subA | .sbbB | .sbbC | .sbbD | .sbbE | .sbbH | .sbbL | .sbbM | .sbbA | .anaB | .anaC | .anaD | .anaE
  | .anaH | .anaL | .anaM | .anaA | .xraB | .xraC | .xraD | .xraE | .xraH | .xraL | .xraM | .xraA | .oraB | .oraC
  | .oraD | .oraE | .oraH | .oraL | .oraM | .oraA | .cmpB | .cmpC | .cmpD | .cmpE | .cmpH | .cmpL | .cmpM | .cmpA
  | .rnz | .popB | .jnz _ | .jmp _ | .adi _ | .rz | .ret | .jz _ | .jmpAlias _ | .aci _ | .rnc | .popD | .jnc _
  | .outPort _ | .sui _ | .rc | .retAlias | .jc _ | .inPort _ | .sbi _ | .rpo | .popH | .jpo _ | .ani _ | .rpe
  | .pchl | .jpe _ | .xchg | .xri _ | .rp | .popPsw | .jp _ | .di | .ori _ | .rm | .sphl | .jm _ | .ei | .cpi _
    => []

/-- The addresses an instruction reads beside its own bytes (R69, "reads"), in the state its meaning starts from. -/
def Instr.loadedAddrs (i : Instr) (s : State) : List Word :=
  match i with
  | .ldaxB => [bc s]
  | .ldaxD => [de s]
  | .lhld w => [w, w + 1]
  | .inrM | .dcrM | .movBM | .movCM | .movDM | .movEM | .movHM | .movLM | .movAM | .addM | .adcM | .subM | .sbbM
  | .anaM | .xraM | .oraM | .cmpM => [hl s]
  | .lda w => [w]
  | .rnz => if condHolds .nz s.flags then [s.sp, s.sp + 1] else []
  | .popB | .ret | .popD | .retAlias | .popH | .xthl | .popPsw => [s.sp, s.sp + 1]
  | .rz => if condHolds .z s.flags then [s.sp, s.sp + 1] else []
  | .rnc => if condHolds .nc s.flags then [s.sp, s.sp + 1] else []
  | .rc => if condHolds .c s.flags then [s.sp, s.sp + 1] else []
  | .rpo => if condHolds .po s.flags then [s.sp, s.sp + 1] else []
  | .rpe => if condHolds .pe s.flags then [s.sp, s.sp + 1] else []
  | .rp => if condHolds .p s.flags then [s.sp, s.sp + 1] else []
  | .rm => if condHolds .m s.flags then [s.sp, s.sp + 1] else []
  | .nop | .lxiB _ | .staxB | .inxB | .inrB | .dcrB | .mviB _ | .rlc | .nopAlias08 | .dadB | .dcxB | .inrC | .dcrC
  | .mviC _ | .rrc | .nopAlias10 | .lxiD _ | .staxD | .inxD | .inrD | .dcrD | .mviD _ | .ral | .nopAlias18 | .dadD
  | .dcxD | .inrE | .dcrE | .mviE _ | .rar | .nopAlias20 | .lxiH _ | .shld _ | .inxH | .inrH | .dcrH | .mviH _
  | .daa | .nopAlias28 | .dadH | .dcxH | .inrL | .dcrL | .mviL _ | .cma | .nopAlias30 | .lxiSp _ | .sta _ | .inxSp
  | .mviM _ | .stc | .nopAlias38 | .dadSp | .dcxSp | .inrA | .dcrA | .mviA _ | .cmc | .movBB | .movBC | .movBD
  | .movBE | .movBH | .movBL | .movBA | .movCB | .movCC | .movCD | .movCE | .movCH | .movCL | .movCA | .movDB
  | .movDC | .movDD | .movDE | .movDH | .movDL | .movDA | .movEB | .movEC | .movED | .movEE | .movEH | .movEL
  | .movEA | .movHB | .movHC | .movHD | .movHE | .movHH | .movHL | .movHA | .movLB | .movLC | .movLD | .movLE
  | .movLH | .movLL | .movLA | .movMB | .movMC | .movMD | .movME | .movMH | .movML | .hlt | .movMA | .movAB
  | .movAC | .movAD | .movAE | .movAH | .movAL | .movAA | .addB | .addC | .addD | .addE | .addH | .addL | .addA
  | .adcB | .adcC | .adcD | .adcE | .adcH | .adcL | .adcA | .subB | .subC | .subD | .subE | .subH | .subL | .subA
  | .sbbB | .sbbC | .sbbD | .sbbE | .sbbH | .sbbL | .sbbA | .anaB | .anaC | .anaD | .anaE | .anaH | .anaL | .anaA
  | .xraB | .xraC | .xraD | .xraE | .xraH | .xraL | .xraA | .oraB | .oraC | .oraD | .oraE | .oraH | .oraL | .oraA
  | .cmpB | .cmpC | .cmpD | .cmpE | .cmpH | .cmpL | .cmpA | .jnz _ | .jmp _ | .cnz _ | .pushB | .adi _ | .rst0
  | .jz _ | .jmpAlias _ | .cz _ | .call _ | .aci _ | .rst1 | .jnc _ | .outPort _ | .cnc _ | .pushD | .sui _ | .rst2
  | .jc _ | .inPort _ | .cc _ | .callAliasDD _ | .sbi _ | .rst3 | .jpo _ | .cpo _ | .pushH | .ani _ | .rst4 | .pchl
  | .jpe _ | .xchg | .cpe _ | .callAliasED _ | .xri _ | .rst5 | .jp _ | .di | .cp _ | .pushPsw | .ori _ | .rst6
  | .sphl | .jm _ | .ei | .cm _ | .callAliasFD _ | .cpi _ | .rst7 => []

/-- Whether an instruction is a taken transfer (R382), the flags being `f`. -/
def Instr.transferTaken (i : Instr) (f : Flags) : Bool :=
  match i with
  | .rnz | .jnz _ | .cnz _ => condHolds .nz f
  | .jmp _ | .rst0 | .ret | .jmpAlias _ | .call _ | .rst1 | .rst2 | .retAlias | .callAliasDD _ | .rst3 | .rst4
  | .pchl | .callAliasED _ | .rst5 | .rst6 | .callAliasFD _ | .rst7 => true
  | .rz | .jz _ | .cz _ => condHolds .z f
  | .rnc | .jnc _ | .cnc _ => condHolds .nc f
  | .rc | .jc _ | .cc _ => condHolds .c f
  | .rpo | .jpo _ | .cpo _ => condHolds .po f
  | .rpe | .jpe _ | .cpe _ => condHolds .pe f
  | .rp | .jp _ | .cp _ => condHolds .p f
  | .rm | .jm _ | .cm _ => condHolds .m f
  | .nop | .lxiB _ | .staxB | .inxB | .inrB | .dcrB | .mviB _ | .rlc | .nopAlias08 | .dadB | .ldaxB | .dcxB | .inrC
  | .dcrC | .mviC _ | .rrc | .nopAlias10 | .lxiD _ | .staxD | .inxD | .inrD | .dcrD | .mviD _ | .ral | .nopAlias18
  | .dadD | .ldaxD | .dcxD | .inrE | .dcrE | .mviE _ | .rar | .nopAlias20 | .lxiH _ | .shld _ | .inxH | .inrH
  | .dcrH | .mviH _ | .daa | .nopAlias28 | .dadH | .lhld _ | .dcxH | .inrL | .dcrL | .mviL _ | .cma | .nopAlias30
  | .lxiSp _ | .sta _ | .inxSp | .inrM | .dcrM | .mviM _ | .stc | .nopAlias38 | .dadSp | .lda _ | .dcxSp | .inrA
  | .dcrA | .mviA _ | .cmc | .movBB | .movBC | .movBD | .movBE | .movBH | .movBL | .movBM | .movBA | .movCB
  | .movCC | .movCD | .movCE | .movCH | .movCL | .movCM | .movCA | .movDB | .movDC | .movDD | .movDE | .movDH
  | .movDL | .movDM | .movDA | .movEB | .movEC | .movED | .movEE | .movEH | .movEL | .movEM | .movEA | .movHB
  | .movHC | .movHD | .movHE | .movHH | .movHL | .movHM | .movHA | .movLB | .movLC | .movLD | .movLE | .movLH
  | .movLL | .movLM | .movLA | .movMB | .movMC | .movMD | .movME | .movMH | .movML | .hlt | .movMA | .movAB
  | .movAC | .movAD | .movAE | .movAH | .movAL | .movAM | .movAA | .addB | .addC | .addD | .addE | .addH | .addL
  | .addM | .addA | .adcB | .adcC | .adcD | .adcE | .adcH | .adcL | .adcM | .adcA | .subB | .subC | .subD | .subE
  | .subH | .subL | .subM | .subA | .sbbB | .sbbC | .sbbD | .sbbE | .sbbH | .sbbL | .sbbM | .sbbA | .anaB | .anaC
  | .anaD | .anaE | .anaH | .anaL | .anaM | .anaA | .xraB | .xraC | .xraD | .xraE | .xraH | .xraL | .xraM | .xraA
  | .oraB | .oraC | .oraD | .oraE | .oraH | .oraL | .oraM | .oraA | .cmpB | .cmpC | .cmpD | .cmpE | .cmpH | .cmpL
  | .cmpM | .cmpA | .popB | .pushB | .adi _ | .aci _ | .popD | .outPort _ | .pushD | .sui _ | .inPort _ | .sbi _
  | .popH | .xthl | .pushH | .ani _ | .xchg | .xri _ | .popPsw | .di | .pushPsw | .ori _ | .sphl | .ei | .cpi _
    => false

end Sys2Proof
end

