-- ==== Sys2Proof/Certificates/Slice0/Obligations.lean ====
section
/-! DEFINITION. The statements for the provers. "log n" is notes/assumptions/n.md. A meaning runs in a state whose PC is past
the instruction's bytes (log 1). -/

namespace Sys2Proof.Claims
open Sys2Proof.Machine

/-- "1 when the low byte of the result has an even number of set bits" (00_scope.md R14). -/
def evenOnes (v : Byte) : Bool := decide (((List.range 8).filter (fun k => v.getLsbD k)).length % 2 = 0)

/-- S, Z and P as a result byte gives them (40_flag_engine.md R121). -/
def SzpFrom (res : Byte) (f : Flags) : Prop :=
  f.s = res.getLsbD 7 ∧ f.z = decide (res = 0) ∧ f.p = evenOnes res

/-- An instruction is these bytes, and in every state it completes, in the state `f` gives: what `f` does not change, it
leaves. -/
def Runs (i : Instr) (bytes : List Byte) (f : State → State) : Prop :=
  encode i = bytes ∧ ∀ s, exec i s = .next (f s)

/-- An instruction is these bytes, and in every state it completes with A and the flags as the 8-bit addition of the operand
and the carry-in gives them (R123, R124, R129), all else unchanged. -/
def AddsToA (i : Instr) (bytes : List Byte) (operand : State → Byte) (carryIn : State → Bool) : Prop :=
  encode i = bytes ∧ ∀ s : State, ∃ (res : Byte) (f : Flags),
    exec i s = .next { s with a := res, flags := f } ∧
    res.toNat = (s.a.toNat + (operand s).toNat + (carryIn s).toNat) % 256 ∧ SzpFrom res f ∧
    f.cy = decide (s.a.toNat + (operand s).toNat + (carryIn s).toNat > 255) ∧
    f.ac = decide (s.a.toNat % 16 + (operand s).toNat % 16 + (carryIn s).toNat > 15)

/-- `res` and `f` are the byte and the flags of the 8-bit subtraction `a - b - c` (R123, R126, R130). -/
def Difference (a b : Byte) (c : Bool) (res : Byte) (f : Flags) : Prop :=
  (res.toNat : Int) = ((a.toNat : Int) - b.toNat - c.toNat) % 256 ∧ SzpFrom res f ∧
    f.cy = decide (a.toNat < b.toNat + c.toNat) ∧ f.ac = decide (a.toNat % 16 < b.toNat % 16 + c.toNat)

/-- An instruction is these bytes, and in every state it completes with A and the flags as the subtraction of the operand and
the borrow-in gives them, all else unchanged. -/
def SubtractsFromA (i : Instr) (bytes : List Byte) (operand : State → Byte) (borrowIn : State → Bool) : Prop :=
  encode i = bytes ∧ ∀ s : State, ∃ (res : Byte) (f : Flags),
    exec i s = .next { s with a := res, flags := f } ∧ Difference s.a (operand s) (borrowIn s) res f

/-- An instruction is these bytes, and in every state it completes with the flags as the subtraction of the operand gives
them, all else, A among it, unchanged. -/
def ComparesWithA (i : Instr) (bytes : List Byte) (operand : State → Byte) : Prop :=
  encode i = bytes ∧ ∀ s : State, ∃ (res : Byte) (f : Flags),
    exec i s = .next { s with flags := f } ∧ Difference s.a (operand s) false res f

/-- An instruction is these bytes, and in every state it completes with A the byte `result` gives, S, Z and P from it, CY
cleared, AC as given, all else unchanged. -/
def CombinesIntoA (i : Instr) (bytes : List Byte) (result : State → Byte) (ac : State → Bool) : Prop :=
  encode i = bytes ∧ ∀ s : State, ∃ f : Flags,
    exec i s = .next { s with a := result s, flags := f } ∧ SzpFrom (result s) f ∧ f.cy = false ∧ f.ac = ac s

/-- `res` and `f` are the byte and the flags of an increment of `v`, CY kept (R125, R134). -/
def Incremented (v : Byte) (old : Flags) (res : Byte) (f : Flags) : Prop :=
  res.toNat = (v.toNat + 1) % 256 ∧ SzpFrom res f ∧ f.ac = decide (v.toNat % 16 = 15) ∧ f.cy = old.cy

/-- `res` and `f` are the byte and the flags of a decrement of `v`, CY kept (R125, R135). -/
def Decremented (v : Byte) (old : Flags) (res : Byte) (f : Flags) : Prop :=
  (res.toNat : Int) = ((v.toNat : Int) - 1) % 256 ∧ SzpFrom res f ∧ f.ac = decide (v.toNat % 16 = 0) ∧ f.cy = old.cy

/-- An instruction is these bytes, and in every state it completes with the operand that `get` reads and `put` writes
changed, and the flags with it, as `Changed` says, all else unchanged. -/
def StepsRegister (i : Instr) (bytes : List Byte) (Changed : Byte → Flags → Byte → Flags → Prop)
    (get : State → Byte) (put : Byte → State → State) : Prop :=
  encode i = bytes ∧ ∀ s : State, ∃ (res : Byte) (f : Flags),
    exec i s = .next { put res s with flags := f } ∧ Changed (get s) s.flags res f

/-- An instruction is these bytes, and in every state with memory in its form it completes with the byte `value` gives stored
at the address `addr` gives, every other byte and all else unchanged. -/
def StoresByte (i : Instr) (bytes : List Byte) (addr : State → Word) (value : State → Byte) : Prop :=
  encode i = bytes ∧ ∀ s : State, Inv s → ∃ t : State,
    exec i s = .next t ∧ t = { s with mem := t.mem } ∧
    memRead (addr s) t = value s ∧ ∀ a, a ≠ addr s → memRead a t = memRead a s

/-- Two states have the same memory but for a word at `lowAddr` and `highAddr`, which in `t` is `v`, low byte at `lowAddr`. -/
def WordStored (s t : State) (lowAddr highAddr v : Word) : Prop :=
  (memRead lowAddr t).toNat = v.toNat % 256 ∧ (memRead highAddr t).toNat = v.toNat / 256 ∧
    ∀ a, a ≠ lowAddr → a ≠ highAddr → memRead a t = memRead a s

/-- In `s`, with memory in its form, an instruction completes with `v` pushed, its high byte at SP - 1 and its low byte at
SP - 2 (R290), and PC as given, all else unchanged. -/
def Pushes (i : Instr) (s : State) (v pc : Word) : Prop :=
  ∃ t : State, exec i s = .next t ∧ t = { s with mem := t.mem, sp := s.sp - 2, pc := pc } ∧
    WordStored s t (s.sp - 2) (s.sp - 1) v

/-- The word `Pop16()` returns (R291). -/
def poppedWord (s : State) : Word := cat (memRead (s.sp + 1) s) (memRead s.sp s)

/-- `v` has the SP of `t` and the two bytes `t` holds there. -/
def TopWordKept (t v : State) : Prop :=
  v.sp = t.sp ∧ memRead t.sp v = memRead t.sp t ∧ memRead (t.sp + 1) v = memRead (t.sp + 1) t

/-- The three bytes from an address on, the address wrapping. -/
def bytesFrom (a : Word) (s : State) : List Byte := [memRead a s, memRead (a + 1) s, memRead (a + 2) s]

/-- The twelve opcode bytes that stand for another instruction: the NOP bytes and those of R315 to R317 (R102). -/
def aliasOpcodes : List Byte := [0x08, 0x10, 0x18, 0x20, 0x28, 0x30, 0x38, 0xCB, 0xD9, 0xDD, 0xED, 0xFD]

/-- A byte that holds two decimal digits. -/
def IsBcd (v : Byte) : Prop := v.toNat % 16 ≤ 9 ∧ v.toNat / 16 ≤ 9

/-- The number two decimal digits stand for. -/
def bcdValue (v : Byte) : Nat := v.toNat / 16 * 10 + v.toNat % 16

end Sys2Proof.Claims

open Sys2Proof Sys2Proof.Machine Sys2Proof.Claims

/-- R36, R360, R365. That reset keeps the attachment is the spec's decision D20; that a new core has an empty trace and
draw count is the model's choice (logs 2, 3) and is not stated here. -/
def Obligations.ResetPutsEveryPieceAtItsValue : Prop :=
  (∀ t, t = State.reset → t.a = 0 ∧ t.b = 0 ∧ t.c = 0 ∧ t.d = 0 ∧ t.e = 0 ∧ t.h = 0 ∧ t.l = 0 ∧ t.sp = 0 ∧ t.pc = 0 ∧
    t.flags = ⟨false, false, false, false, false⟩ ∧ flagByte t.flags = 0x02 ∧ (∀ a, memRead a t = 0x00) ∧
    t.halted = false ∧ t.io = .defaultStubs) ∧
  ∀ s : State, (hostReset s).io = s.io ∧
    { hostReset s with io := .defaultStubs, ioDraws := State.reset.ioDraws, ioTrace := State.reset.ioTrace } = State.reset

/-- R34: the invariants "hold at creation". -/
def Obligations.ResetStateSatisfiesTheInvariant : Prop :=
  Inv State.reset

/-- R34: the invariants hold "after every step". The ranges of registers hold by the types; what is stated is that memory
stays in its one form (log 6). -/
def Obligations.StepKeepsTheInvariant : Prop :=
  ∀ s t : State, Inv s → step s = .next t → Inv t

/-- R34: the invariants hold after "every host operation". -/
def Obligations.HostOperationsKeepTheInvariant : Prop :=
  ∀ s : State, Inv s →
    Inv (hostReset s) ∧ (∀ addr byte, Inv (poke addr byte s)) ∧ (∀ base bytes, Inv (load base bytes s)) ∧
    (∀ n v, Inv (writeRegister n v s)) ∧ (∀ k x, Inv (setFlag k x s)) ∧ (∀ id, Inv (attachIo id s)) ∧
    ∀ n t k, run n s = .next (t, k) → Inv t

/-- R28, both functions and the layout contract. -/
def Obligations.FlagByteHasItsLayoutAndFixedBits : Prop :=
  (∀ f : Flags, (flagByte f).getLsbD 7 = f.s ∧ (flagByte f).getLsbD 6 = f.z ∧ (flagByte f).getLsbD 4 = f.ac ∧
    (flagByte f).getLsbD 2 = f.p ∧ (flagByte f).getLsbD 0 = f.cy ∧
    flagByte f &&& 0x28 = 0 ∧ flagByte f &&& 0x02 = 0x02) ∧
  ∀ v : Byte, flagsOfByte v = ⟨v.getLsbD 7, v.getLsbD 6, v.getLsbD 4, v.getLsbD 2, v.getLsbD 0⟩

/-- R23 and R24. -/
def Obligations.PairsAndPswAreViews : Prop :=
  (∀ s : State,
    bc s = (s.b.setWidth 16 <<< 8) ||| s.c.setWidth 16 ∧ de s = (s.d.setWidth 16 <<< 8) ||| s.e.setWidth 16 ∧
    hl s = (s.h.setWidth 16 <<< 8) ||| s.l.setWidth 16 ∧
    psw s = (s.a.setWidth 16 <<< 8) ||| (flagByte s.flags).setWidth 16) ∧
  ∀ (s : State) (v : Word),
    setBc v s = { s with b := v.extractLsb' 8 8, c := v.extractLsb' 0 8 } ∧ bc (setBc v s) = v ∧
    setDe v s = { s with d := v.extractLsb' 8 8, e := v.extractLsb' 0 8 } ∧ de (setDe v s) = v ∧
    setHl v s = { s with h := v.extractLsb' 8 8, l := v.extractLsb' 0 8 } ∧ hl (setHl v s) = v ∧
    setPsw v s = { s with a := v.extractLsb' 8 8, flags := flagsOfByte (v.extractLsb' 0 8) } ∧
    psw (setPsw v s) = (v &&& 0xFFD7) ||| 0x0002

/-- R63. What poke and load put where they write is stated of its own. -/
def Obligations.ReadAfterWriteGivesTheByteWritten : Prop :=
  (∀ (s : State) (a : Word) (v : Byte), Inv s →
    memRead a (memWrite a v s) = v ∧ (∀ b, b ≠ a → memRead b (memWrite a v s) = memRead b s) ∧
    memWrite a v s = { s with mem := (memWrite a v s).mem }) ∧
  (∀ a, memRead a State.reset = 0x00) ∧
  ∀ (s : State) (a : Word), Inv s →
    (∀ b v, a ≠ maskWord b → memRead a (poke b v s) = memRead a s) ∧
    (∀ base bytes, (∀ k < bytes.length, a ≠ maskWord (base + k)) → memRead a (load base bytes s) = memRead a s) ∧
    memRead a (hostReset s) = 0x00

/-- R64 to R68. The order of the two writes (decision D15) cannot be observed and is not stated. -/
def Obligations.WordsInMemoryAreLittleEndianAndWrap : Prop :=
  ∀ (s : State) (a v : Word),
    (read16 a s).toNat = (memRead a s).toNat + 256 * (memRead (a + 1) s).toNat ∧
    (Inv s → WordStored s (write16 a v s) a (a + 1) v ∧ read16 a (write16 a v s) = v ∧
      write16 a v s = { s with mem := (write16 a v s).mem })

/-- R364. -/
def Obligations.HaltedStepChangesNothing : Prop :=
  ∀ s : State, s.halted = true → step s = .next s

/-- R98, R362. That all bytes are fetched before the instruction acts is R80, the spec's decision D15 (log 1). -/
def Obligations.StepRunsTheDecodedInstruction : Prop :=
  ∀ (s : State) (i : Instr) (rest : List Byte), s.halted = false → decode (bytesFrom s.pc s) = .ok (i, rest) →
    step s = exec i { s with pc := s.pc + BitVec.ofNat 16 i.length }

/-- R90, R97, R98, R362; the fetch wraps past 0xFFFF (R97). -/
def Obligations.StepRunsTheBytesOfAnInstruction : Prop :=
  ∀ (s : State) (i : Instr), s.halted = false →
    (∀ (k : Nat) (v : Byte), (encode i)[k]? = some v → memRead (s.pc + BitVec.ofNat 16 k) s = v) →
    step s = exec i { s with pc := s.pc + BitVec.ofNat 16 i.length }

/-- R330: "No instruction raises an exception", and R344: a step is always enabled. -/
def Obligations.EveryStepAnswersANextState : Prop :=
  (∀ s : State, Safe s) ∧ (∀ (i : Instr) (s : State), ∃ t, exec i s = .next t) ∧
  ∀ (n : Nat) (s : State), ∃ t k, run n s = .next (t, k) ∧ k ≤ n

/-- R30, R375: "Inside the core, only HLT sets halted". -/
def Obligations.OnlyHltHalts : Prop :=
  (∀ (i : Instr) (s t : State), exec i s = .next t → (t.halted = true ↔ i = .hlt ∨ s.halted = true)) ∧
  ∀ s t : State, step s = .next t → (t.halted = true ↔ s.halted = true ∨ memRead s.pc s = 0x76)

/-- R382. Which transfers are taken is `Instr.transferTaken`, the list of R382 (the aliases are the spec's decision D2,
PCHL its decision D4). -/
def Obligations.PcAdvancesByTheLengthUnlessTransferIsTaken : Prop :=
  ∀ (s t : State) (i : Instr) (rest : List Byte), s.halted = false → decode (bytesFrom s.pc s) = .ok (i, rest) →
    step s = .next t → i.transferTaken s.flags = false → t.pc = s.pc + BitVec.ofNat 16 i.length

/-- The frame of every instruction for A to L and SP (R22, R25). -/
def Obligations.RegistersAndSpAreWrittenOnlyWhereTheTablesSay : Prop :=
  ∀ (i : Instr) (s t : State), exec i s = .next t →
    (∀ r, r ∉ i.regsWritten → regRead r t = regRead r s) ∧ (i.spWritten s.flags = false → t.sp = s.sp)

/-- The frame of every instruction for the flags (R29). That an instruction no rule names as a flag writer writes none is
the spec's decision D9 (log 11). -/
def Obligations.FlagsAreWrittenOnlyWhereTheTableSays : Prop :=
  ∀ (i : Instr) (s t : State), exec i s = .next t →
    ∀ k, k ∉ i.flagsWritten → getFlag k t.flags = getFlag k s.flags

/-- The frame of every instruction for memory (R69, "writes"). -/
def Obligations.MemoryIsWrittenOnlyWhereTheTableSays : Prop :=
  ∀ (i : Instr) (s t : State), Inv s → exec i s = .next t →
    ∀ a, a ∉ i.storedAddrs s → memRead a t = memRead a s

/-- R72: only IN and OUT reach the ports. The trace and the draw count are held in the state by the model's choice (logs
2, 3). -/
def Obligations.OnlyInAndOutTouchTheIoState : Prop :=
  ∀ (i : Instr) (s t : State), exec i s = .next t → t.io = s.io ∧
    ((∀ v, i ≠ .inPort v ∧ i ≠ .outPort v) → t.ioTrace = s.ioTrace) ∧
    ((∀ v, i ≠ .inPort v) ∨ s.io = .defaultStubs → t.ioDraws = s.ioDraws)

/-- R69, "reads": the accesses each instruction makes beyond fetching its own bytes. The bytes stored are compared too;
the other bytes stay what they were (MemoryIsWrittenOnlyWhereTheTableSays). -/
def Obligations.InstructionsReadMemoryOnlyWhereTheTableSays : Prop :=
  ∀ (i : Instr) (s : State) (m : Memory), (∀ a ∈ i.loadedAddrs s, memRead a { s with mem := m } = memRead a s) →
    ∃ t u, exec i s = .next t ∧ exec i { s with mem := m } = .next u ∧ u = { t with mem := u.mem } ∧
      (Inv s → Inv { s with mem := m } → ∀ a ∈ i.storedAddrs s, memRead a t = memRead a u)

/-- R29, "read by". INR and DCR do not read CY: they leave it. -/
def Obligations.InstructionsReadFlagsOnlyWhereTheTableSays : Prop :=
  ∀ (i : Instr) (s : State) (g : Flags), (∀ k ∈ i.flagsRead, getFlag k g = getFlag k s.flags) →
    ∃ t u, exec i s = .next t ∧ exec i { s with flags := g } = .next u ∧ u = { t with flags := u.flags } ∧
      ∀ k ∈ i.flagsWritten, getFlag k u.flags = getFlag k t.flags

/-- R76: io_trace "is not core state, and no instruction reads it" (the spec's decision D6). With a device attached the
trace is what the device has seen, and its answers may depend on it (log 2). -/
def Obligations.NoInstructionReadsTheIoTrace : Prop :=
  ∀ s : State, s.io = .defaultStubs → ∃ (t : State) (events : List IoEvent), ∀ trace : List IoEvent,
    step { s with ioTrace := trace } = .next { t with ioTrace := trace ++ events }

/-- R90, R91, R101: the decoder is written from the fields, the encoder from the map. Every instruction is well formed
(log 12). -/
def Obligations.DecodeOfEncodeIsTheInstruction : Prop :=
  ∀ (i : Instr) (rest : List Byte), i.wellFormed = true → decode (encode i ++ rest) = .ok (i, rest)

/-- R103: "No later byte changes the meaning or length of an instruction". -/
def Obligations.DecodedBytesAreTheEncoding : Prop :=
  ∀ (bs : List Byte) (i : Instr) (rest : List Byte), decode bs = .ok (i, rest) → bs = encode i ++ rest

/-- R102: "No opcode is illegal, reserved, or a trap". The lengths of the alias opcodes rest on the spec's decision D2. -/
def Obligations.EveryOpcodeByteIsAnInstruction : Prop :=
  decode [] = .error .noOpcode ∧
  ∀ (op : Byte) (rest : List Byte),
    ((formatOf op).length ≤ rest.length + 1 → ∃ i, decode (op :: rest) = .ok (i, rest.drop ((formatOf op).length - 1))) ∧
    (rest.length + 1 < (formatOf op).length → decode (op :: rest) = .error (.truncated op (formatOf op).length))

/-- R91, R101. PCHL (0xE9) is the spec's decision D4. -/
def Obligations.WordsWrittenFromTheMapDecode : Prop :=
  decode [0x41] = .ok (.movBC, []) ∧
  decode [0x3E, 0x05] = .ok (.mviA 0x05, []) ∧
  decode [0x21, 0x34, 0x12] = .ok (.lxiH 0x1234, []) ∧
  decode [0x22, 0x00, 0x50] = .ok (.shld 0x5000, []) ∧
  decode [0x80] = .ok (.addB, []) ∧
  decode [0xAF] = .ok (.xraA, []) ∧
  decode [0xC6, 0x01] = .ok (.adi 0x01, []) ∧
  decode [0x04] = .ok (.inrB, []) ∧
  decode [0x39] = .ok (.dadSp, []) ∧
  decode [0x0F] = .ok (.rrc, []) ∧
  decode [0x27] = .ok (.daa, []) ∧
  decode [0xC3, 0x00, 0x10] = .ok (.jmp 0x1000, []) ∧
  decode [0xCD, 0x08, 0x00] = .ok (.call 0x0008, []) ∧
  decode [0xC0] = .ok (.rnz, []) ∧
  decode [0xFF] = .ok (.rst7, []) ∧
  decode [0xF5] = .ok (.pushPsw, []) ∧
  decode [0xE1] = .ok (.popH, []) ∧
  decode [0xE3] = .ok (.xthl, []) ∧
  decode [0xDB, 0x10] = .ok (.inPort 0x10, []) ∧
  decode [0xD3, 0x01] = .ok (.outPort 0x01, []) ∧
  decode [0x76] = .ok (.hlt, []) ∧
  decode [0xE9] = .ok (.pchl, [])

/-- R317, "The other policy". The policy taken is the other one (R6; the spec's decision D2; log 10). -/
def Obligations.UndocPolicyGovernsFiveOpcodesOnly : Prop :=
  (∀ op ∈ ([0xCB, 0xD9, 0xDD, 0xED, 0xFD] : List Byte), formatUnder .nopForm op = .f1 ∧
    ∀ b1 b2, decodeOpcodeUnder .nopForm op b1 b2 = .nop) ∧
  ∀ op, op ∉ ([0xCB, 0xD9, 0xDD, 0xED, 0xFD] : List Byte) →
    formatUnder .nopForm op = formatUnder .documentedForm op ∧
    ∀ b1 b2, decodeOpcodeUnder .nopForm op b1 b2 = decodeOpcodeUnder .documentedForm op b1 b2

/-- R140, R141. That the flags stay is the spec's decision D9 (log 11). -/
def Obligations.MovIntoARegister : Prop :=
  Runs .movBB [0x40] (fun s => { s with b := s.b }) ∧
  Runs .movBC [0x41] (fun s => { s with b := s.c }) ∧
  Runs .movBD [0x42] (fun s => { s with b := s.d }) ∧
  Runs .movBE [0x43] (fun s => { s with b := s.e }) ∧
  Runs .movBH [0x44] (fun s => { s with b := s.h }) ∧
  Runs .movBL [0x45] (fun s => { s with b := s.l }) ∧
  Runs .movBA [0x47] (fun s => { s with b := s.a }) ∧
  Runs .movBM [0x46] (fun s => { s with b := memRead (cat s.h s.l) s }) ∧
  Runs .movCB [0x48] (fun s => { s with c := s.b }) ∧
  Runs .movCC [0x49] (fun s => { s with c := s.c }) ∧
  Runs .movCD [0x4A] (fun s => { s with c := s.d }) ∧
  Runs .movCE [0x4B] (fun s => { s with c := s.e }) ∧
  Runs .movCH [0x4C] (fun s => { s with c := s.h }) ∧
  Runs .movCL [0x4D] (fun s => { s with c := s.l }) ∧
  Runs .movCA [0x4F] (fun s => { s with c := s.a }) ∧
  Runs .movCM [0x4E] (fun s => { s with c := memRead (cat s.h s.l) s }) ∧
  Runs .movDB [0x50] (fun s => { s with d := s.b }) ∧
  Runs .movDC [0x51] (fun s => { s with d := s.c }) ∧
  Runs .movDD [0x52] (fun s => { s with d := s.d }) ∧
  Runs .movDE [0x53] (fun s => { s with d := s.e }) ∧
  Runs .movDH [0x54] (fun s => { s with d := s.h }) ∧
  Runs .movDL [0x55] (fun s => { s with d := s.l }) ∧
  Runs .movDA [0x57] (fun s => { s with d := s.a }) ∧
  Runs .movDM [0x56] (fun s => { s with d := memRead (cat s.h s.l) s }) ∧
  Runs .movEB [0x58] (fun s => { s with e := s.b }) ∧
  Runs .movEC [0x59] (fun s => { s with e := s.c }) ∧
  Runs .movED [0x5A] (fun s => { s with e := s.d }) ∧
  Runs .movEE [0x5B] (fun s => { s with e := s.e }) ∧
  Runs .movEH [0x5C] (fun s => { s with e := s.h }) ∧
  Runs .movEL [0x5D] (fun s => { s with e := s.l }) ∧
  Runs .movEA [0x5F] (fun s => { s with e := s.a }) ∧
  Runs .movEM [0x5E] (fun s => { s with e := memRead (cat s.h s.l) s }) ∧
  Runs .movHB [0x60] (fun s => { s with h := s.b }) ∧
  Runs .movHC [0x61] (fun s => { s with h := s.c }) ∧
  Runs .movHD [0x62] (fun s => { s with h := s.d }) ∧
  Runs .movHE [0x63] (fun s => { s with h := s.e }) ∧
  Runs .movHH [0x64] (fun s => { s with h := s.h }) ∧
  Runs .movHL [0x65] (fun s => { s with h := s.l }) ∧
  Runs .movHA [0x67] (fun s => { s with h := s.a }) ∧
  Runs .movHM [0x66] (fun s => { s with h := memRead (cat s.h s.l) s }) ∧
  Runs .movLB [0x68] (fun s => { s with l := s.b }) ∧
  Runs .movLC [0x69] (fun s => { s with l := s.c }) ∧
  Runs .movLD [0x6A] (fun s => { s with l := s.d }) ∧
  Runs .movLE [0x6B] (fun s => { s with l := s.e }) ∧
  Runs .movLH [0x6C] (fun s => { s with l := s.h }) ∧
  Runs .movLL [0x6D] (fun s => { s with l := s.l }) ∧
  Runs .movLA [0x6F] (fun s => { s with l := s.a }) ∧
  Runs .movLM [0x6E] (fun s => { s with l := memRead (cat s.h s.l) s }) ∧
  Runs .movAB [0x78] (fun s => { s with a := s.b }) ∧
  Runs .movAC [0x79] (fun s => { s with a := s.c }) ∧
  Runs .movAD [0x7A] (fun s => { s with a := s.d }) ∧
  Runs .movAE [0x7B] (fun s => { s with a := s.e }) ∧
  Runs .movAH [0x7C] (fun s => { s with a := s.h }) ∧
  Runs .movAL [0x7D] (fun s => { s with a := s.l }) ∧
  Runs .movAA [0x7F] (fun s => { s with a := s.a }) ∧
  Runs .movAM [0x7E] (fun s => { s with a := memRead (cat s.h s.l) s })

/-- R143, R145, R91. That the flags stay is the spec's decision D9 (log 11). -/
def Obligations.ImmediateLoads : Prop :=
  ∀ v x y : Byte,
    Runs (.mviB v) [0x06, v] (fun s => { s with b := v }) ∧
    Runs (.mviC v) [0x0E, v] (fun s => { s with c := v }) ∧
    Runs (.mviD v) [0x16, v] (fun s => { s with d := v }) ∧
    Runs (.mviE v) [0x1E, v] (fun s => { s with e := v }) ∧
    Runs (.mviH v) [0x26, v] (fun s => { s with h := v }) ∧
    Runs (.mviL v) [0x2E, v] (fun s => { s with l := v }) ∧
    Runs (.mviA v) [0x3E, v] (fun s => { s with a := v }) ∧
    Runs (.lxiB (cat y x)) [0x01, x, y] (fun s => { s with b := y, c := x }) ∧
    Runs (.lxiD (cat y x)) [0x11, x, y] (fun s => { s with d := y, e := x }) ∧
    Runs (.lxiH (cat y x)) [0x21, x, y] (fun s => { s with h := y, l := x }) ∧
    Runs (.lxiSp (cat y x)) [0x31, x, y] (fun s => { s with sp := cat y x })

/-- R147, R149, R151. That the flags stay is the spec's decision D9 (log 11). -/
def Obligations.LoadsFromMemory : Prop :=
  ∀ x y : Byte,
    Runs .ldaxB [0x0A] (fun s => { s with a := memRead (cat s.b s.c) s }) ∧
    Runs .ldaxD [0x1A] (fun s => { s with a := memRead (cat s.d s.e) s }) ∧
    Runs (.lda (cat y x)) [0x3A, x, y] (fun s => { s with a := memRead (cat y x) s }) ∧
    Runs (.lhld (cat y x)) [0x2A, x, y]
      (fun s => { s with l := memRead (cat y x) s, h := memRead (cat y x + 1) s })

/-- R142, R144, R146, R150. That the flags stay is the spec's decision D9 (log 11). -/
def Obligations.ByteStores : Prop :=
  ∀ v x y : Byte,
    StoresByte .movMB [0x70] (fun s => cat s.h s.l) (fun s => s.b) ∧
    StoresByte .movMC [0x71] (fun s => cat s.h s.l) (fun s => s.c) ∧
    StoresByte .movMD [0x72] (fun s => cat s.h s.l) (fun s => s.d) ∧
    StoresByte .movME [0x73] (fun s => cat s.h s.l) (fun s => s.e) ∧
    StoresByte .movMH [0x74] (fun s => cat s.h s.l) (fun s => s.h) ∧
    StoresByte .movML [0x75] (fun s => cat s.h s.l) (fun s => s.l) ∧
    StoresByte .movMA [0x77] (fun s => cat s.h s.l) (fun s => s.a) ∧
    StoresByte (.mviM v) [0x36, v] (fun s => cat s.h s.l) (fun _ => v) ∧
    StoresByte .staxB [0x02] (fun s => cat s.b s.c) (fun s => s.a) ∧
    StoresByte .staxD [0x12] (fun s => cat s.d s.e) (fun s => s.a) ∧
    StoresByte (.sta (cat y x)) [0x32, x, y] (fun _ => cat y x) (fun s => s.a)

/-- R148, R297. That XTHL reads both bytes before it writes either is the spec's decision D15, that SHLD leaves the flags
its decision D9 (log 11). -/
def Obligations.ShldAndXthlStoreHl : Prop :=
  ∀ x y : Byte, encode (.shld (cat y x)) = [0x22, x, y] ∧ encode .xthl = [0xE3] ∧ ∀ s : State, Inv s →
    (∃ t, exec (.shld (cat y x)) s = .next t ∧ t = { s with mem := t.mem } ∧
      WordStored s t (cat y x) (cat y x + 1) (cat s.h s.l)) ∧
    ∃ t, exec .xthl s = .next t ∧
      t = { s with mem := t.mem, l := memRead s.sp s, h := memRead (s.sp + 1) s } ∧
      WordStored s t s.sp (s.sp + 1) (cat s.h s.l)

/-- R170, R171. -/
def Obligations.AddRegisterAndMemory : Prop :=
  AddsToA .addB [0x80] (fun s => s.b) (fun _ => false) ∧
  AddsToA .addC [0x81] (fun s => s.c) (fun _ => false) ∧
  AddsToA .addD [0x82] (fun s => s.d) (fun _ => false) ∧
  AddsToA .addE [0x83] (fun s => s.e) (fun _ => false) ∧
  AddsToA .addH [0x84] (fun s => s.h) (fun _ => false) ∧
  AddsToA .addL [0x85] (fun s => s.l) (fun _ => false) ∧
  AddsToA .addM [0x86] (fun s => memRead (cat s.h s.l) s) (fun _ => false) ∧
  AddsToA .addA [0x87] (fun s => s.a) (fun _ => false)

/-- R172, R173, R186, R187. The carry-in is the spec's decision D11, the immediate forms its decision D10 (log 11). -/
def Obligations.AddWithCarryAndAddImmediate : Prop :=
  ∀ v : Byte,
    AddsToA .adcB [0x88] (fun s => s.b) (fun s => s.flags.cy) ∧
    AddsToA .adcC [0x89] (fun s => s.c) (fun s => s.flags.cy) ∧
    AddsToA .adcD [0x8A] (fun s => s.d) (fun s => s.flags.cy) ∧
    AddsToA .adcE [0x8B] (fun s => s.e) (fun s => s.flags.cy) ∧
    AddsToA .adcH [0x8C] (fun s => s.h) (fun s => s.flags.cy) ∧
    AddsToA .adcL [0x8D] (fun s => s.l) (fun s => s.flags.cy) ∧
    AddsToA .adcM [0x8E] (fun s => memRead (cat s.h s.l) s) (fun s => s.flags.cy) ∧
    AddsToA .adcA [0x8F] (fun s => s.a) (fun s => s.flags.cy) ∧
    AddsToA (.adi v) [0xC6, v] (fun _ => v) (fun _ => false) ∧
    AddsToA (.aci v) [0xCE, v] (fun _ => v) (fun s => s.flags.cy)

/-- R174, R175, R184, R185. -/
def Obligations.SubtractAndCompareRegisterAndMemory : Prop :=
  SubtractsFromA .subB [0x90] (fun s => s.b) (fun _ => false) ∧
  SubtractsFromA .subC [0x91] (fun s => s.c) (fun _ => false) ∧
  SubtractsFromA .subD [0x92] (fun s => s.d) (fun _ => false) ∧
  SubtractsFromA .subE [0x93] (fun s => s.e) (fun _ => false) ∧
  SubtractsFromA .subH [0x94] (fun s => s.h) (fun _ => false) ∧
  SubtractsFromA .subL [0x95] (fun s => s.l) (fun _ => false) ∧
  SubtractsFromA .subM [0x96] (fun s => memRead (cat s.h s.l) s) (fun _ => false) ∧
  SubtractsFromA .subA [0x97] (fun s => s.a) (fun _ => false) ∧
  ComparesWithA .cmpB [0xB8] (fun s => s.b) ∧
  ComparesWithA .cmpC [0xB9] (fun s => s.c) ∧
  ComparesWithA .cmpD [0xBA] (fun s => s.d) ∧
  ComparesWithA .cmpE [0xBB] (fun s => s.e) ∧
  ComparesWithA .cmpH [0xBC] (fun s => s.h) ∧
  ComparesWithA .cmpL [0xBD] (fun s => s.l) ∧
  ComparesWithA .cmpM [0xBE] (fun s => memRead (cat s.h s.l) s) ∧
  ComparesWithA .cmpA [0xBF] (fun s => s.a)

/-- R176, R177, R188, R189, R193. The borrow-in is the spec's decision D11, the immediate forms its decision D10 (log 11). -/
def Obligations.SubtractWithBorrowAndImmediate : Prop :=
  ∀ v : Byte,
    SubtractsFromA .sbbB [0x98] (fun s => s.b) (fun s => s.flags.cy) ∧
    SubtractsFromA .sbbC [0x99] (fun s => s.c) (fun s => s.flags.cy) ∧
    SubtractsFromA .sbbD [0x9A] (fun s => s.d) (fun s => s.flags.cy) ∧
    SubtractsFromA .sbbE [0x9B] (fun s => s.e) (fun s => s.flags.cy) ∧
    SubtractsFromA .sbbH [0x9C] (fun s => s.h) (fun s => s.flags.cy) ∧
    SubtractsFromA .sbbL [0x9D] (fun s => s.l) (fun s => s.flags.cy) ∧
    SubtractsFromA .sbbM [0x9E] (fun s => memRead (cat s.h s.l) s) (fun s => s.flags.cy) ∧
    SubtractsFromA .sbbA [0x9F] (fun s => s.a) (fun s => s.flags.cy) ∧
    SubtractsFromA (.sui v) [0xD6, v] (fun _ => v) (fun _ => false) ∧
    SubtractsFromA (.sbi v) [0xDE, v] (fun _ => v) (fun s => s.flags.cy) ∧
    ComparesWithA (.cpi v) [0xFE, v] (fun _ => v)

/-- R178 to R183. -/
def Obligations.LogicalRegisterAndMemory : Prop :=
  CombinesIntoA .anaB [0xA0] (fun s => s.a &&& s.b) (fun s => (s.a ||| s.b).getLsbD 3) ∧
  CombinesIntoA .anaC [0xA1] (fun s => s.a &&& s.c) (fun s => (s.a ||| s.c).getLsbD 3) ∧
  CombinesIntoA .anaD [0xA2] (fun s => s.a &&& s.d) (fun s => (s.a ||| s.d).getLsbD 3) ∧
  CombinesIntoA .anaE [0xA3] (fun s => s.a &&& s.e) (fun s => (s.a ||| s.e).getLsbD 3) ∧
  CombinesIntoA .anaH [0xA4] (fun s => s.a &&& s.h) (fun s => (s.a ||| s.h).getLsbD 3) ∧
  CombinesIntoA .anaL [0xA5] (fun s => s.a &&& s.l) (fun s => (s.a ||| s.l).getLsbD 3) ∧
  CombinesIntoA .anaM [0xA6] (fun s => s.a &&& memRead (cat s.h s.l) s) (fun s => (s.a ||| memRead (cat s.h s.l) s).getLsbD 3) ∧
  CombinesIntoA .anaA [0xA7] (fun s => s.a &&& s.a) (fun s => (s.a ||| s.a).getLsbD 3) ∧
  CombinesIntoA .xraB [0xA8] (fun s => s.a ^^^ s.b) (fun _ => false) ∧
  CombinesIntoA .xraC [0xA9] (fun s => s.a ^^^ s.c) (fun _ => false) ∧
  CombinesIntoA .xraD [0xAA] (fun s => s.a ^^^ s.d) (fun _ => false) ∧
  CombinesIntoA .xraE [0xAB] (fun s => s.a ^^^ s.e) (fun _ => false) ∧
  CombinesIntoA .xraH [0xAC] (fun s => s.a ^^^ s.h) (fun _ => false) ∧
  CombinesIntoA .xraL [0xAD] (fun s => s.a ^^^ s.l) (fun _ => false) ∧
  CombinesIntoA .xraM [0xAE] (fun s => s.a ^^^ memRead (cat s.h s.l) s) (fun _ => false) ∧
  CombinesIntoA .xraA [0xAF] (fun s => s.a ^^^ s.a) (fun _ => false) ∧
  CombinesIntoA .oraB [0xB0] (fun s => s.a ||| s.b) (fun _ => false) ∧
  CombinesIntoA .oraC [0xB1] (fun s => s.a ||| s.c) (fun _ => false) ∧
  CombinesIntoA .oraD [0xB2] (fun s => s.a ||| s.d) (fun _ => false) ∧
  CombinesIntoA .oraE [0xB3] (fun s => s.a ||| s.e) (fun _ => false) ∧
  CombinesIntoA .oraH [0xB4] (fun s => s.a ||| s.h) (fun _ => false) ∧
  CombinesIntoA .oraL [0xB5] (fun s => s.a ||| s.l) (fun _ => false) ∧
  CombinesIntoA .oraM [0xB6] (fun s => s.a ||| memRead (cat s.h s.l) s) (fun _ => false) ∧
  CombinesIntoA .oraA [0xB7] (fun s => s.a ||| s.a) (fun _ => false)

/-- R190 to R192. The immediate forms are the spec's decision D10 (log 11). -/
def Obligations.LogicalImmediate : Prop :=
  ∀ v : Byte,
    CombinesIntoA (.ani v) [0xE6, v] (fun s => s.a &&& v) (fun s => (s.a ||| v).getLsbD 3) ∧
    CombinesIntoA (.xri v) [0xEE, v] (fun s => s.a ^^^ v) (fun _ => false) ∧
    CombinesIntoA (.ori v) [0xF6, v] (fun s => s.a ||| v) (fun _ => false)

/-- R200, R202. -/
def Obligations.IncrementAndDecrementRegister : Prop :=
  StepsRegister .inrB [0x04] Incremented (fun s => s.b) (fun v s => { s with b := v }) ∧
  StepsRegister .inrC [0x0C] Incremented (fun s => s.c) (fun v s => { s with c := v }) ∧
  StepsRegister .inrD [0x14] Incremented (fun s => s.d) (fun v s => { s with d := v }) ∧
  StepsRegister .inrE [0x1C] Incremented (fun s => s.e) (fun v s => { s with e := v }) ∧
  StepsRegister .inrH [0x24] Incremented (fun s => s.h) (fun v s => { s with h := v }) ∧
  StepsRegister .inrL [0x2C] Incremented (fun s => s.l) (fun v s => { s with l := v }) ∧
  StepsRegister .inrA [0x3C] Incremented (fun s => s.a) (fun v s => { s with a := v }) ∧
  StepsRegister .dcrB [0x05] Decremented (fun s => s.b) (fun v s => { s with b := v }) ∧
  StepsRegister .dcrC [0x0D] Decremented (fun s => s.c) (fun v s => { s with c := v }) ∧
  StepsRegister .dcrD [0x15] Decremented (fun s => s.d) (fun v s => { s with d := v }) ∧
  StepsRegister .dcrE [0x1D] Decremented (fun s => s.e) (fun v s => { s with e := v }) ∧
  StepsRegister .dcrH [0x25] Decremented (fun s => s.h) (fun v s => { s with h := v }) ∧
  StepsRegister .dcrL [0x2D] Decremented (fun s => s.l) (fun v s => { s with l := v }) ∧
  StepsRegister .dcrA [0x3D] Decremented (fun s => s.a) (fun v s => { s with a := v })

/-- R201, R203. -/
def Obligations.IncrementAndDecrementMemory : Prop :=
  encode .inrM = [0x34] ∧ encode .dcrM = [0x35] ∧ ∀ s : State, Inv s →
    (∃ (t : State) (f : Flags), exec .inrM s = .next t ∧ t = { s with mem := t.mem, flags := f } ∧
      Incremented (memRead (cat s.h s.l) s) s.flags (memRead (cat s.h s.l) t) f ∧
      ∀ a, a ≠ cat s.h s.l → memRead a t = memRead a s) ∧
    ∃ (t : State) (f : Flags), exec .dcrM s = .next t ∧ t = { s with mem := t.mem, flags := f } ∧
      Decremented (memRead (cat s.h s.l) s) s.flags (memRead (cat s.h s.l) t) f ∧
      ∀ a, a ≠ cat s.h s.l → memRead a t = memRead a s

/-- R204, R205. -/
def Obligations.IncrementAndDecrementPair : Prop :=
  Runs .inxB [0x03] (fun s =>
    { s with b := (cat s.b s.c + 1).extractLsb' 8 8, c := (cat s.b s.c + 1).extractLsb' 0 8 }) ∧
  Runs .inxD [0x13] (fun s =>
    { s with d := (cat s.d s.e + 1).extractLsb' 8 8, e := (cat s.d s.e + 1).extractLsb' 0 8 }) ∧
  Runs .inxH [0x23] (fun s =>
    { s with h := (cat s.h s.l + 1).extractLsb' 8 8, l := (cat s.h s.l + 1).extractLsb' 0 8 }) ∧
  Runs .inxSp [0x33] (fun s => { s with sp := s.sp + 1 }) ∧
  Runs .dcxB [0x0B] (fun s =>
    { s with b := (cat s.b s.c - 1).extractLsb' 8 8, c := (cat s.b s.c - 1).extractLsb' 0 8 }) ∧
  Runs .dcxD [0x1B] (fun s =>
    { s with d := (cat s.d s.e - 1).extractLsb' 8 8, e := (cat s.d s.e - 1).extractLsb' 0 8 }) ∧
  Runs .dcxH [0x2B] (fun s =>
    { s with h := (cat s.h s.l - 1).extractLsb' 8 8, l := (cat s.h s.l - 1).extractLsb' 0 8 }) ∧
  Runs .dcxSp [0x3B] (fun s => { s with sp := s.sp - 1 })

/-- R206. -/
def Obligations.DoubleAdd : Prop :=
  Runs .dadB [0x09] (fun s =>
    { s with h := (cat s.h s.l + (cat s.b s.c)).extractLsb' 8 8, l := (cat s.h s.l + (cat s.b s.c)).extractLsb' 0 8,
             flags := { s.flags with cy := decide ((cat s.h s.l).toNat + (cat s.b s.c).toNat ≥ 65536) } }) ∧
  Runs .dadD [0x19] (fun s =>
    { s with h := (cat s.h s.l + (cat s.d s.e)).extractLsb' 8 8, l := (cat s.h s.l + (cat s.d s.e)).extractLsb' 0 8,
             flags := { s.flags with cy := decide ((cat s.h s.l).toNat + (cat s.d s.e).toNat ≥ 65536) } }) ∧
  Runs .dadH [0x29] (fun s =>
    { s with h := (cat s.h s.l + (cat s.h s.l)).extractLsb' 8 8, l := (cat s.h s.l + (cat s.h s.l)).extractLsb' 0 8,
             flags := { s.flags with cy := decide ((cat s.h s.l).toNat + (cat s.h s.l).toNat ≥ 65536) } }) ∧
  Runs .dadSp [0x39] (fun s =>
    { s with h := (cat s.h s.l + s.sp).extractLsb' 8 8, l := (cat s.h s.l + s.sp).extractLsb' 0 8,
             flags := { s.flags with cy := decide ((cat s.h s.l).toNat + s.sp.toNat ≥ 65536) } })

/-- R220 to R223, bit by bit. -/
def Obligations.Rotates : Prop :=
  (encode .rlc = [0x07] ∧ encode .rrc = [0x0F] ∧ encode .ral = [0x17] ∧ encode .rar = [0x1F]) ∧
  ∀ s : State,
    (∃ r : Byte, exec .rlc s = .next { s with a := r, flags := { s.flags with cy := s.a.getLsbD 7 } } ∧
      r.getLsbD 0 = s.a.getLsbD 7 ∧ ∀ k < 7, r.getLsbD (k + 1) = s.a.getLsbD k) ∧
    (∃ r : Byte, exec .rrc s = .next { s with a := r, flags := { s.flags with cy := s.a.getLsbD 0 } } ∧
      r.getLsbD 7 = s.a.getLsbD 0 ∧ ∀ k < 7, r.getLsbD k = s.a.getLsbD (k + 1)) ∧
    (∃ r : Byte, exec .ral s = .next { s with a := r, flags := { s.flags with cy := s.a.getLsbD 7 } } ∧
      r.getLsbD 0 = s.flags.cy ∧ ∀ k < 7, r.getLsbD (k + 1) = s.a.getLsbD k) ∧
    ∃ r : Byte, exec .rar s = .next { s with a := r, flags := { s.flags with cy := s.a.getLsbD 0 } } ∧
      r.getLsbD 7 = s.flags.cy ∧ ∀ k < 7, r.getLsbD k = s.a.getLsbD (k + 1)

/-- R224. That both tests read the A that DAA started with is the spec's decision D8 (log 11). -/
def Obligations.DecimalAdjustFollowsItsRule : Prop :=
  encode .daa = [0x27] ∧ ∀ s : State, ∃ (res : Byte) (f : Flags), exec .daa s = .next { s with a := res, flags := f } ∧
    f.ac = (decide (s.a.toNat % 16 > 9) || s.flags.ac) ∧ f.cy = (decide (s.a.toNat > 0x99) || s.flags.cy) ∧
    res.toNat = (s.a.toNat + 0x06 * f.ac.toNat + 0x60 * f.cy.toNat) % 256 ∧ SzpFrom res f

/-- The use of DAA the worked example of R224 shows ("That is BCD 38 + 45 = 83"); derived from R170, R171 and R224. That
both tests of DAA read the A it started with, on which a sum of 0xFA (0x99 + 0x61) rests, is the spec's decision D8
(log 11). -/
def Obligations.BcdAdditionThroughDaa : Prop :=
  ∀ s : State, IsBcd s.a →
    ∀ p ∈ [(Instr.addB, s.b), (.addC, s.c), (.addD, s.d), (.addE, s.e), (.addH, s.h), (.addL, s.l),
      (.addM, memRead (cat s.h s.l) s), (.addA, s.a)], IsBcd p.2 →
    ∃ t u, exec p.1 s = .next t ∧ exec .daa t = .next u ∧ u = { s with a := u.a, flags := u.flags } ∧
      IsBcd u.a ∧ 100 * u.flags.cy.toNat + bcdValue u.a = bcdValue s.a + bcdValue p.2

/-- R225 to R227. That STC and CMC leave the other flags is the spec's decision D9 (log 11). -/
def Obligations.ComplementAndCarryInstructions : Prop :=
  Runs .cma [0x2F] (fun s => { s with a := 0xFF - s.a }) ∧
  Runs .stc [0x37] (fun s => { s with flags := { s.flags with cy := true } }) ∧
  Runs .cmc [0x3F] (fun s => { s with flags := { s.flags with cy := !s.flags.cy } })

/-- R96, R241 to R250, R280, R315. 0xCB is the spec's decision D2, PCHL its decision D4, the flags staying its decision D9
(log 11). -/
def Obligations.Jumps : Prop :=
  ∀ x y : Byte,
    Runs (.jmp (cat y x)) [0xC3, x, y] (fun s => { s with pc := cat y x }) ∧
    Runs (.jmpAlias (cat y x)) [0xCB, x, y] (fun s => { s with pc := cat y x }) ∧
    Runs .pchl [0xE9] (fun s => { s with pc := cat s.h s.l }) ∧
    Runs (.jnz (cat y x)) [0xC2, x, y] (fun s => if s.flags.z = false then { s with pc := cat y x } else s) ∧
    Runs (.jz (cat y x)) [0xCA, x, y] (fun s => if s.flags.z = true then { s with pc := cat y x } else s) ∧
    Runs (.jnc (cat y x)) [0xD2, x, y] (fun s => if s.flags.cy = false then { s with pc := cat y x } else s) ∧
    Runs (.jc (cat y x)) [0xDA, x, y] (fun s => if s.flags.cy = true then { s with pc := cat y x } else s) ∧
    Runs (.jpo (cat y x)) [0xE2, x, y] (fun s => if s.flags.p = false then { s with pc := cat y x } else s) ∧
    Runs (.jpe (cat y x)) [0xEA, x, y] (fun s => if s.flags.p = true then { s with pc := cat y x } else s) ∧
    Runs (.jp (cat y x)) [0xF2, x, y] (fun s => if s.flags.s = false then { s with pc := cat y x } else s) ∧
    Runs (.jm (cat y x)) [0xFA, x, y] (fun s => if s.flags.s = true then { s with pc := cat y x } else s)

/-- R251 to R260, R290, R317. The aliases, the conditions, the untaken form and the flags staying are the spec's decisions
D2, D12, D13, D9 (log 11). -/
def Obligations.Calls : Prop :=
  ∀ (s : State) (x y : Byte), Inv s →
    (encode (.call (cat y x)) = [0xCD, x, y] ∧ Pushes (.call (cat y x)) s s.pc (cat y x)) ∧
    (encode (.callAliasDD (cat y x)) = [0xDD, x, y] ∧ Pushes (.callAliasDD (cat y x)) s s.pc (cat y x)) ∧
    (encode (.callAliasED (cat y x)) = [0xED, x, y] ∧ Pushes (.callAliasED (cat y x)) s s.pc (cat y x)) ∧
    (encode (.callAliasFD (cat y x)) = [0xFD, x, y] ∧ Pushes (.callAliasFD (cat y x)) s s.pc (cat y x)) ∧
    (encode (.cnz (cat y x)) = [0xC4, x, y] ∧
      if s.flags.z = false then Pushes (.cnz (cat y x)) s s.pc (cat y x) else exec (.cnz (cat y x)) s = .next s) ∧
    (encode (.cz (cat y x)) = [0xCC, x, y] ∧
      if s.flags.z = true then Pushes (.cz (cat y x)) s s.pc (cat y x) else exec (.cz (cat y x)) s = .next s) ∧
    (encode (.cnc (cat y x)) = [0xD4, x, y] ∧
      if s.flags.cy = false then Pushes (.cnc (cat y x)) s s.pc (cat y x) else exec (.cnc (cat y x)) s = .next s) ∧
    (encode (.cc (cat y x)) = [0xDC, x, y] ∧
      if s.flags.cy = true then Pushes (.cc (cat y x)) s s.pc (cat y x) else exec (.cc (cat y x)) s = .next s) ∧
    (encode (.cpo (cat y x)) = [0xE4, x, y] ∧
      if s.flags.p = false then Pushes (.cpo (cat y x)) s s.pc (cat y x) else exec (.cpo (cat y x)) s = .next s) ∧
    (encode (.cpe (cat y x)) = [0xEC, x, y] ∧
      if s.flags.p = true then Pushes (.cpe (cat y x)) s s.pc (cat y x) else exec (.cpe (cat y x)) s = .next s) ∧
    (encode (.cp (cat y x)) = [0xF4, x, y] ∧
      if s.flags.s = false then Pushes (.cp (cat y x)) s s.pc (cat y x) else exec (.cp (cat y x)) s = .next s) ∧
    (encode (.cm (cat y x)) = [0xFC, x, y] ∧
      if s.flags.s = true then Pushes (.cm (cat y x)) s s.pc (cat y x) else exec (.cm (cat y x)) s = .next s)

/-- R261 to R270, R291, R316. The alias, the conditions and the flags staying are the spec's decisions D2, D12, D9 (log
11). -/
def Obligations.Returns : Prop :=
  Runs .ret [0xC9] (fun s => { s with pc := poppedWord s, sp := s.sp + 2 }) ∧
  Runs .retAlias [0xD9] (fun s => { s with pc := poppedWord s, sp := s.sp + 2 }) ∧
  Runs .rnz [0xC0] (fun s => if s.flags.z = false then { s with pc := poppedWord s, sp := s.sp + 2 } else s) ∧
  Runs .rz [0xC8] (fun s => if s.flags.z = true then { s with pc := poppedWord s, sp := s.sp + 2 } else s) ∧
  Runs .rnc [0xD0] (fun s => if s.flags.cy = false then { s with pc := poppedWord s, sp := s.sp + 2 } else s) ∧
  Runs .rc [0xD8] (fun s => if s.flags.cy = true then { s with pc := poppedWord s, sp := s.sp + 2 } else s) ∧
  Runs .rpo [0xE0] (fun s => if s.flags.p = false then { s with pc := poppedWord s, sp := s.sp + 2 } else s) ∧
  Runs .rpe [0xE8] (fun s => if s.flags.p = true then { s with pc := poppedWord s, sp := s.sp + 2 } else s) ∧
  Runs .rp [0xF0] (fun s => if s.flags.s = false then { s with pc := poppedWord s, sp := s.sp + 2 } else s) ∧
  Runs .rm [0xF8] (fun s => if s.flags.s = true then { s with pc := poppedWord s, sp := s.sp + 2 } else s)

/-- R271 to R279, R290. The address pushed is the spec's decision D14, the flags staying its decision D9 (log 11). -/
def Obligations.Restarts : Prop :=
  ∀ s : State, Inv s →
    (encode .rst0 = [0xC7] ∧ Pushes .rst0 s s.pc 0x0000) ∧
    (encode .rst1 = [0xCF] ∧ Pushes .rst1 s s.pc 0x0008) ∧
    (encode .rst2 = [0xD7] ∧ Pushes .rst2 s s.pc 0x0010) ∧
    (encode .rst3 = [0xDF] ∧ Pushes .rst3 s s.pc 0x0018) ∧
    (encode .rst4 = [0xE7] ∧ Pushes .rst4 s s.pc 0x0020) ∧
    (encode .rst5 = [0xEF] ∧ Pushes .rst5 s s.pc 0x0028) ∧
    (encode .rst6 = [0xF7] ∧ Pushes .rst6 s s.pc 0x0030) ∧
    (encode .rst7 = [0xFF] ∧ Pushes .rst7 s s.pc 0x0038)

/-- R290, R292, R293. That PUSH B, D and H leave the flags is the spec's decision D9 (log 11). -/
def Obligations.PushesOfPairs : Prop :=
  ∀ s : State, Inv s →
    (encode .pushB = [0xC5] ∧ Pushes .pushB s (cat s.b s.c) s.pc) ∧
    (encode .pushD = [0xD5] ∧ Pushes .pushD s (cat s.d s.e) s.pc) ∧
    (encode .pushH = [0xE5] ∧ Pushes .pushH s (cat s.h s.l) s.pc) ∧
    (encode .pushPsw = [0xF5] ∧ Pushes .pushPsw s (cat s.a (flagByte s.flags)) s.pc)

/-- R291, R294, R295. That POP B, D and H leave the flags is the spec's decision D9 (log 11). -/
def Obligations.PopsOfPairs : Prop :=
  Runs .popB [0xC1] (fun s => { s with c := memRead s.sp s, b := memRead (s.sp + 1) s, sp := s.sp + 2 }) ∧
  Runs .popD [0xD1] (fun s => { s with e := memRead s.sp s, d := memRead (s.sp + 1) s, sp := s.sp + 2 }) ∧
  Runs .popH [0xE1] (fun s => { s with l := memRead s.sp s, h := memRead (s.sp + 1) s, sp := s.sp + 2 }) ∧
  Runs .popPsw [0xF1] (fun s => { s with a := memRead (s.sp + 1) s, flags := ⟨(memRead s.sp s).getLsbD 7,
    (memRead s.sp s).getLsbD 6, (memRead s.sp s).getLsbD 4, (memRead s.sp s).getLsbD 2, (memRead s.sp s).getLsbD 0⟩, sp := s.sp + 2 })

/-- R291: "registers and flags are restored byte-for-byte" (95_test_vectors.md part 1, invariant 4). From `t` to `v`
anything may happen, other pushes and pops among it, that leaves SP and the two pushed bytes as they were. -/
def Obligations.PushThenPopRestores : Prop :=
  ∀ s : State, Inv s →
    (∃ t, exec .pushB s = .next t ∧
      ∀ v, TopWordKept t v → exec .popB v = .next { v with b := s.b, c := s.c, sp := s.sp }) ∧
    (∃ t, exec .pushD s = .next t ∧
      ∀ v, TopWordKept t v → exec .popD v = .next { v with d := s.d, e := s.e, sp := s.sp }) ∧
    (∃ t, exec .pushH s = .next t ∧
      ∀ v, TopWordKept t v → exec .popH v = .next { v with h := s.h, l := s.l, sp := s.sp }) ∧
    ∃ t, exec .pushPsw s = .next t ∧
      ∀ v, TopWordKept t v → exec .popPsw v = .next { v with a := s.a, flags := s.flags, sp := s.sp }

/-- R296, R298. That XCHG and SPHL leave the flags is the spec's decision D9 (log 11). -/
def Obligations.ExchangeAndSphl : Prop :=
  Runs .xchg [0xEB] (fun s => { s with d := s.h, e := s.l, h := s.d, l := s.e }) ∧
  Runs .sphl [0xF9] (fun s => { s with sp := cat s.h s.l })

/-- R75, R76, R310, R311. 0x00 is the spec's decision D5, the trace its decision D6; that the trace and the draw count
stand in the state is the model's choice (logs 2, 3). It holds for every answer of the device. -/
def Obligations.InAndOut : Prop :=
  ∀ (s : State) (port : Byte), encode (.inPort port) = [0xDB, port] ∧ encode (.outPort port) = [0xD3, port] ∧
    exec (.outPort port) s = .next { s with ioTrace := s.ioTrace ++ [.output port s.a] } ∧
    (s.io = .defaultStubs →
      exec (.inPort port) s = .next { s with a := 0x00, ioTrace := s.ioTrace ++ [.input port 0x00] }) ∧
    ∀ id, s.io = .device id → ∃ v : Byte, exec (.inPort port) s =
      .next { s with a := v, ioDraws := s.ioDraws + 1, ioTrace := s.ioTrace ++ [.input port v] }

/-- R312 to R314, R318, R319. EI and DI are the spec's decision D3, PC after HLT its decision D7 (log 11). -/
def Obligations.NopHltEiDi : Prop :=
  Runs .nop [0x00] (fun s => s) ∧
  Runs .nopAlias08 [0x08] (fun s => s) ∧
  Runs .nopAlias10 [0x10] (fun s => s) ∧
  Runs .nopAlias18 [0x18] (fun s => s) ∧
  Runs .nopAlias20 [0x20] (fun s => s) ∧
  Runs .nopAlias28 [0x28] (fun s => s) ∧
  Runs .nopAlias30 [0x30] (fun s => s) ∧
  Runs .nopAlias38 [0x38] (fun s => s) ∧
  Runs .di [0xF3] (fun s => s) ∧
  Runs .ei [0xFB] (fun s => s) ∧
  Runs .hlt [0x76] (fun s => { s with halted := true })

/-- The laws of the source (95_test_vectors.md part 1.2) and the corner cases of R222, R223 and R296. -/
def Obligations.AlgebraicLaws : Prop :=
  ∀ s : State, let seq := fun (is : List Instr) => is.foldl (fun r i => match r with
      | .next t => exec i t
      | r => r) (.next s : Host.Outcome State Fault Refusal)
    seq [.cma, .cma] = .next s ∧ seq [.xchg, .xchg] = .next s ∧
    (∀ p ∈ [(Instr.inxB, Instr.dcxB), (.inxD, .dcxD), (.inxH, .dcxH), (.inxSp, .dcxSp)],
      seq [p.1, p.2] = .next s ∧ seq [p.2, p.1] = .next s) ∧
    (∃ f, seq (List.replicate 8 .rlc) = .next { s with flags := f }) ∧
    (∃ f, seq (List.replicate 8 .rrc) = .next { s with flags := f }) ∧
    seq (List.replicate 9 .ral) = .next s ∧ seq (List.replicate 9 .rar) = .next s ∧
    seq [.stc, .cmc] = .next { s with flags := { s.flags with cy := false } }

/-- R366 to R369. The masking is the spec's decision D19 (log 11). -/
def Obligations.PeekPokeLoad : Prop :=
  ∀ s : State, (∀ addr, peek addr s = memRead (BitVec.ofInt 16 addr) s) ∧ (Inv s →
    (∀ addr byte, poke addr byte s = { s with mem := (poke addr byte s).mem } ∧
      peek addr (poke addr byte s) = BitVec.ofInt 8 byte ∧
      ∀ a, a ≠ BitVec.ofInt 16 addr → memRead a (poke addr byte s) = memRead a s) ∧
    ∀ base bytes, bytes.length ≤ 65536 → load base bytes s = { s with mem := (load base bytes s).mem } ∧
      (∀ (k : Nat) (v : Int), bytes[k]? = some v → peek (base + k) (load base bytes s) = BitVec.ofInt 8 v) ∧
      ∀ a, (∀ k < bytes.length, a ≠ BitVec.ofInt 16 (base + k)) → memRead a (load base bytes s) = memRead a s)

/-- R361, R367, R370 to R375. That FLAGS and PSW may be written, the masking, and halted staying are the spec's decisions
D19 and D16 (log 11); that the attachment is a device's number and draws are counted in the state is the model's
choice (logs 2, 4). -/
def Obligations.RegisterAndFlagAccessByTheHost : Prop :=
  ∀ (s : State) (v : Int),
    (∀ p ∈ [(RegName.a, s.a.toNat), (.b, s.b.toNat), (.c, s.c.toNat), (.d, s.d.toNat), (.e, s.e.toNat),
      (.h, s.h.toNat), (.l, s.l.toNat), (.sp, s.sp.toNat), (.pc, s.pc.toNat), (.flags, (flagByte s.flags).toNat),
      (.bc, s.b.toNat * 256 + s.c.toNat), (.de, s.d.toNat * 256 + s.e.toNat), (.hl, s.h.toNat * 256 + s.l.toNat),
      (.psw, s.a.toNat * 256 + (flagByte s.flags).toNat)], readRegister p.1 s = p.2) ∧
    (∀ p ∈ [(FlagName.s, s.flags.s), (.z, s.flags.z), (.ac, s.flags.ac), (.p, s.flags.p), (.cy, s.flags.cy)],
      readFlag p.1 s = p.2) ∧
    (∀ n ∈ [RegName.a, .b, .c, .d, .e, .h, .l], (readRegister n (writeRegister n v s) : Int) = v % 2 ^ 8) ∧
    (∀ n ∈ [RegName.sp, .pc, .bc, .de, .hl], (readRegister n (writeRegister n v s) : Int) = v % 2 ^ 16) ∧
    readRegister .flags (writeRegister .flags v s) = (v % 2 ^ 8).toNat &&& 0xD7 ||| 0x02 ∧
    readRegister .psw (writeRegister .psw v s) = (v % 2 ^ 16).toNat &&& 0xFFD7 ||| 0x0002 ∧
    writeRegister .a v s = { s with a := (writeRegister .a v s).a } ∧
    writeRegister .b v s = { s with b := (writeRegister .b v s).b } ∧
    writeRegister .c v s = { s with c := (writeRegister .c v s).c } ∧
    writeRegister .d v s = { s with d := (writeRegister .d v s).d } ∧
    writeRegister .e v s = { s with e := (writeRegister .e v s).e } ∧
    writeRegister .h v s = { s with h := (writeRegister .h v s).h } ∧
    writeRegister .l v s = { s with l := (writeRegister .l v s).l } ∧
    writeRegister .sp v s = { s with sp := (writeRegister .sp v s).sp } ∧
    writeRegister .pc v s = { s with pc := (writeRegister .pc v s).pc } ∧
    writeRegister .flags v s = { s with flags := (writeRegister .flags v s).flags } ∧
    writeRegister .bc v s = { s with b := (writeRegister .bc v s).b, c := (writeRegister .bc v s).c } ∧
    writeRegister .de v s = { s with d := (writeRegister .de v s).d, e := (writeRegister .de v s).e } ∧
    writeRegister .hl v s = { s with h := (writeRegister .hl v s).h, l := (writeRegister .hl v s).l } ∧
    writeRegister .psw v s = { s with a := (writeRegister .psw v s).a, flags := (writeRegister .psw v s).flags } ∧
    (∀ k x, readFlag k (setFlag k x s) = x ∧ (∀ k', k' ≠ k → readFlag k' (setFlag k x s) = readFlag k' s) ∧
      setFlag k x s = { s with flags := (setFlag k x s).flags }) ∧
    ∀ id id', attachIo id s = { s with io := .device id } ∧ attachIo id' (attachIo id s) = attachIo id' s ∧
      (attachIo id s).halted = s.halted

/-- R363. The count is the spec's decision D18 (log 11). -/
def Obligations.RunsComposeAndCountRetiredInstructions : Prop :=
  (∀ s : State, run 0 s = .next (s, 0)) ∧ (∀ (n : Nat) (s : State), s.halted = true → run n s = .next (s, 0)) ∧
  (∀ (n : Nat) (s t u : State) (k : Nat), s.halted = false → step s = .next t → run n t = .next (u, k) →
    run (n + 1) s = .next (u, k + 1)) ∧
  (∀ (n m : Nat) (s t u : State) (j k : Nat), run n s = .next (t, j) → run m t = .next (u, k) →
    run (n + m) s = .next (u, j + k)) ∧
  ∀ (n : Nat) (s t : State) (j : Nat), run n s = .next (t, j) → j < n → t.halted = true

/-- R102, R105, R313, R315 to R317. The five aliases of JMP, RET and CALL are the spec's decision D2 (log 11). -/
def Obligations.AliasBytesActAsDocumented : Prop :=
  (∀ w : Word, (Instr.jmpAlias w).documented = .jmp w ∧ Instr.retAlias.documented = .ret ∧
    (Instr.callAliasDD w).documented = .call w ∧ (Instr.callAliasED w).documented = .call w ∧
    (Instr.callAliasFD w).documented = .call w) ∧
  (∀ i ∈ [Instr.nopAlias08, .nopAlias10, .nopAlias18, .nopAlias20, .nopAlias28, .nopAlias30, .nopAlias38],
    i.documented = .nop) ∧
  ∀ i : Instr, (∀ s : State, exec i s = exec i.documented s) ∧ i.documented.length = i.length ∧
    assemble i = encode i.documented ∧ decode (assemble i) = .ok (i.documented, []) ∧
    i.documented.opcode ∉ aliasOpcodes ∧ (i.opcode ∉ aliasOpcodes → i.documented = i)
end

