-- ==== Sys2Proof/Laws/Words.lean ====
section
/-! SUPPORT. The two halves of a word: `cat`, `hiByte` and `loByte` (00_scope.md R7, R8). -/

namespace Sys2Proof

/-- A statement about every byte is its 256 cases. -/
theorem byte_cases {P : Byte → Prop} (h : ∀ n, n < 256 → P (BitVec.ofNat 8 n)) (v : Byte) : P v := by
  simpa using h v.toNat v.isLt

theorem cat_toNat (x y : Byte) : (cat x y).toNat = x.toNat * 256 + y.toNat := by
  have := x.isLt; have := y.isLt
  simp only [cat, BitVec.toNat_ofNat]; omega

theorem hiByte_toNat (v : Word) : (hiByte v).toNat = v.toNat / 256 := by
  have := v.isLt
  simp only [hiByte, BitVec.toNat_ofNat]; omega

theorem loByte_toNat (v : Word) : (loByte v).toNat = v.toNat % 256 := by
  simp [loByte]

@[simp] theorem hiByte_cat (x y : Byte) : hiByte (cat x y) = x := by
  have := y.isLt
  apply BitVec.eq_of_toNat_eq; rw [hiByte_toNat, cat_toNat]; omega

@[simp] theorem loByte_cat (x y : Byte) : loByte (cat x y) = y := by
  have := y.isLt
  apply BitVec.eq_of_toNat_eq; rw [loByte_toNat, cat_toNat]; omega

@[simp] theorem cat_hiByte_loByte (v : Word) : cat (hiByte v) (loByte v) = v := by
  apply BitVec.eq_of_toNat_eq; rw [cat_toNat, hiByte_toNat, loByte_toNat]; omega

theorem cat_inj {x y x' y' : Byte} : cat x y = cat x' y' ↔ x = x' ∧ y = y' :=
  ⟨fun h => ⟨by simpa using congrArg hiByte h, by simpa using congrArg loByte h⟩, fun ⟨h, k⟩ => by rw [h, k]⟩

/-- `hiByte` is the bits 15 to 8. -/
theorem hiByte_eq_extract (v : Word) : hiByte v = v.extractLsb' 8 8 := by
  apply BitVec.eq_of_toNat_eq; have := v.isLt
  rw [hiByte_toNat, BitVec.extractLsb'_toNat, Nat.shiftRight_eq_div_pow]; omega

/-- `loByte` is the bits 7 to 0. -/
theorem loByte_eq_extract (v : Word) : loByte v = v.extractLsb' 0 8 := by
  apply BitVec.eq_of_toNat_eq
  rw [loByte_toNat, BitVec.extractLsb'_toNat, Nat.shiftRight_eq_div_pow]; omega

end Sys2Proof
end

