-- ==== Sys2Proof/Laws/Decode.lean ====
section
/-! SUPPORT. The decoder and the encoder, opcode byte by opcode byte (30_encoding.md R91, R92, R101). -/

namespace Sys2Proof

/-- The format of an opcode byte (R92) is the format of the instruction it encodes. -/
theorem formatOf_opcode (i : Instr) : formatOf i.opcode = i.format := by
  cases i <;> rfl

/-- The instruction decoded from an opcode byte has that opcode byte. -/
theorem opcode_decodeOpcode (op b1 b2 : Byte) : (decodeOpcode op b1 b2).opcode = op := by
  induction op using byte_cases with
  | h n h => interval_cases n <;> rfl

/-- It carries the operand bytes of its format, the low byte first. -/
theorem immediate_decodeOpcode (op b1 b2 : Byte) :
    (decodeOpcode op b1 b2).immediate =
      match formatOf op with
      | .f1 => .none
      | .f2 => .d8 b1
      | .f3 => .d16 (cat b2 b1) := by
  induction op using byte_cases with
  | h n h => interval_cases n <;> rfl

/-- The instruction of an opcode byte with the operand bytes it was encoded with. -/
theorem decodeOpcode_opcode (i : Instr) (b1 b2 : Byte)
    (h : i.immediate =
      match i.format with
      | .f1 => .none
      | .f2 => .d8 b1
      | .f3 => .d16 (cat b2 b1)) : decodeOpcode i.opcode b1 b2 = i := by
  cases i <;> simp only [Instr.immediate, Instr.format, Immediate.d8.injEq, Immediate.d16.injEq] at h <;> subst_vars <;>
    simp only [Instr.opcode] <;> rfl

/-- The number of bytes of an encoding is the length of its format. -/
theorem length_encode (i : Instr) : (encode i).length = i.length := by
  cases i <;> rfl

end Sys2Proof
end

