-- ==== Sys2Proof/Laws/Exec.lean ====
section
/-! SUPPORT. What `exec` answers, constructor by constructor, in the shared operations: the one place where a proof passes
from `exec` to them. -/

namespace Sys2Proof.Machine

@[simp] theorem exec_nop (s : State) : exec .nop s = .next s := rfl
@[simp] theorem exec_lxiB (w : Word) (s : State) : exec (.lxiB w) s = .next (setRP .bc w s) := rfl
@[simp] theorem exec_staxB (s : State) : exec .staxB s = .next (memWrite (getIndexPair .bc s) s.a s) := rfl
@[simp] theorem exec_inxB (s : State) : exec .inxB s = .next (incPair .bc s) := rfl
@[simp] theorem exec_inrB (s : State) : exec .inrB s = .next (incOperand (.reg .b) s) := rfl
@[simp] theorem exec_dcrB (s : State) : exec .dcrB s = .next (decOperand (.reg .b) s) := rfl
@[simp] theorem exec_mviB (v : Byte) (s : State) : exec (.mviB v) s = .next (regWrite .b v s) := rfl
@[simp] theorem exec_rlc (s : State) : exec .rlc s = .next (rotateLeft (s.a.getLsbD 7) s) := rfl
@[simp] theorem exec_nopAlias08 (s : State) : exec .nopAlias08 s = .next s := rfl
@[simp] theorem exec_dadB (s : State) : exec .dadB s = .next (addPairToHl .bc s) := rfl
@[simp] theorem exec_ldaxB (s : State) : exec .ldaxB s = .next (regWrite .a (memRead (getIndexPair .bc s) s) s) := rfl
@[simp] theorem exec_dcxB (s : State) : exec .dcxB s = .next (decPair .bc s) := rfl
@[simp] theorem exec_inrC (s : State) : exec .inrC s = .next (incOperand (.reg .c) s) := rfl
@[simp] theorem exec_dcrC (s : State) : exec .dcrC s = .next (decOperand (.reg .c) s) := rfl
@[simp] theorem exec_mviC (v : Byte) (s : State) : exec (.mviC v) s = .next (regWrite .c v s) := rfl
@[simp] theorem exec_rrc (s : State) : exec .rrc s = .next (rotateRight (s.a.getLsbD 0) s) := rfl
@[simp] theorem exec_nopAlias10 (s : State) : exec .nopAlias10 s = .next s := rfl
@[simp] theorem exec_lxiD (w : Word) (s : State) : exec (.lxiD w) s = .next (setRP .de w s) := rfl
@[simp] theorem exec_staxD (s : State) : exec .staxD s = .next (memWrite (getIndexPair .de s) s.a s) := rfl
@[simp] theorem exec_inxD (s : State) : exec .inxD s = .next (incPair .de s) := rfl
@[simp] theorem exec_inrD (s : State) : exec .inrD s = .next (incOperand (.reg .d) s) := rfl
@[simp] theorem exec_dcrD (s : State) : exec .dcrD s = .next (decOperand (.reg .d) s) := rfl
@[simp] theorem exec_mviD (v : Byte) (s : State) : exec (.mviD v) s = .next (regWrite .d v s) := rfl
@[simp] theorem exec_ral (s : State) : exec .ral s = .next (rotateLeft s.flags.cy s) := rfl
@[simp] theorem exec_nopAlias18 (s : State) : exec .nopAlias18 s = .next s := rfl
@[simp] theorem exec_dadD (s : State) : exec .dadD s = .next (addPairToHl .de s) := rfl
@[simp] theorem exec_ldaxD (s : State) : exec .ldaxD s = .next (regWrite .a (memRead (getIndexPair .de s) s) s) := rfl
@[simp] theorem exec_dcxD (s : State) : exec .dcxD s = .next (decPair .de s) := rfl
@[simp] theorem exec_inrE (s : State) : exec .inrE s = .next (incOperand (.reg .e) s) := rfl
@[simp] theorem exec_dcrE (s : State) : exec .dcrE s = .next (decOperand (.reg .e) s) := rfl
@[simp] theorem exec_mviE (v : Byte) (s : State) : exec (.mviE v) s = .next (regWrite .e v s) := rfl
@[simp] theorem exec_rar (s : State) : exec .rar s = .next (rotateRight s.flags.cy s) := rfl
@[simp] theorem exec_nopAlias20 (s : State) : exec .nopAlias20 s = .next s := rfl
@[simp] theorem exec_lxiH (w : Word) (s : State) : exec (.lxiH w) s = .next (setRP .hl w s) := rfl
@[simp] theorem exec_shld (w : Word) (s : State) : exec (.shld w) s = .next (write16 w (hl s) s) := rfl
@[simp] theorem exec_inxH (s : State) : exec .inxH s = .next (incPair .hl s) := rfl
@[simp] theorem exec_inrH (s : State) : exec .inrH s = .next (incOperand (.reg .h) s) := rfl
@[simp] theorem exec_dcrH (s : State) : exec .dcrH s = .next (decOperand (.reg .h) s) := rfl
@[simp] theorem exec_mviH (v : Byte) (s : State) : exec (.mviH v) s = .next (regWrite .h v s) := rfl
@[simp] theorem exec_daa (s : State) : exec .daa s = .next (decimalAdjust s) := rfl
@[simp] theorem exec_nopAlias28 (s : State) : exec .nopAlias28 s = .next s := rfl
@[simp] theorem exec_dadH (s : State) : exec .dadH s = .next (addPairToHl .hl s) := rfl
@[simp] theorem exec_lhld (w : Word) (s : State) : exec (.lhld w) s = .next (setHl (read16 w s) s) := rfl
@[simp] theorem exec_dcxH (s : State) : exec .dcxH s = .next (decPair .hl s) := rfl
@[simp] theorem exec_inrL (s : State) : exec .inrL s = .next (incOperand (.reg .l) s) := rfl
@[simp] theorem exec_dcrL (s : State) : exec .dcrL s = .next (decOperand (.reg .l) s) := rfl
@[simp] theorem exec_mviL (v : Byte) (s : State) : exec (.mviL v) s = .next (regWrite .l v s) := rfl
@[simp] theorem exec_cma (s : State) : exec .cma s = .next ({ s with a := ~~~s.a }) := rfl
@[simp] theorem exec_nopAlias30 (s : State) : exec .nopAlias30 s = .next s := rfl
@[simp] theorem exec_lxiSp (w : Word) (s : State) : exec (.lxiSp w) s = .next (setRP .sp w s) := rfl
@[simp] theorem exec_sta (w : Word) (s : State) : exec (.sta w) s = .next (memWrite w s.a s) := rfl
@[simp] theorem exec_inxSp (s : State) : exec .inxSp s = .next (incPair .sp s) := rfl
@[simp] theorem exec_inrM (s : State) : exec .inrM s = .next (incOperand .m s) := rfl
@[simp] theorem exec_dcrM (s : State) : exec .dcrM s = .next (decOperand .m s) := rfl
@[simp] theorem exec_mviM (v : Byte) (s : State) : exec (.mviM v) s = .next (memWrite (hl s) v s) := rfl
@[simp] theorem exec_stc (s : State) : exec .stc s = .next (setCy true s) := rfl
@[simp] theorem exec_nopAlias38 (s : State) : exec .nopAlias38 s = .next s := rfl
@[simp] theorem exec_dadSp (s : State) : exec .dadSp s = .next (addPairToHl .sp s) := rfl
@[simp] theorem exec_lda (w : Word) (s : State) : exec (.lda w) s = .next (regWrite .a (memRead w s) s) := rfl
@[simp] theorem exec_dcxSp (s : State) : exec .dcxSp s = .next (decPair .sp s) := rfl
@[simp] theorem exec_inrA (s : State) : exec .inrA s = .next (incOperand (.reg .a) s) := rfl
@[simp] theorem exec_dcrA (s : State) : exec .dcrA s = .next (decOperand (.reg .a) s) := rfl
@[simp] theorem exec_mviA (v : Byte) (s : State) : exec (.mviA v) s = .next (regWrite .a v s) := rfl
@[simp] theorem exec_cmc (s : State) : exec .cmc s = .next (setCy (!s.flags.cy) s) := rfl
@[simp] theorem exec_movBB (s : State) : exec .movBB s = .next (movRegReg .b .b s) := rfl
@[simp] theorem exec_movBC (s : State) : exec .movBC s = .next (movRegReg .b .c s) := rfl
@[simp] theorem exec_movBD (s : State) : exec .movBD s = .next (movRegReg .b .d s) := rfl
@[simp] theorem exec_movBE (s : State) : exec .movBE s = .next (movRegReg .b .e s) := rfl
@[simp] theorem exec_movBH (s : State) : exec .movBH s = .next (movRegReg .b .h s) := rfl
@[simp] theorem exec_movBL (s : State) : exec .movBL s = .next (movRegReg .b .l s) := rfl
@[simp] theorem exec_movBM (s : State) : exec .movBM s = .next (movRegMem .b s) := rfl
@[simp] theorem exec_movBA (s : State) : exec .movBA s = .next (movRegReg .b .a s) := rfl
@[simp] theorem exec_movCB (s : State) : exec .movCB s = .next (movRegReg .c .b s) := rfl
@[simp] theorem exec_movCC (s : State) : exec .movCC s = .next (movRegReg .c .c s) := rfl
@[simp] theorem exec_movCD (s : State) : exec .movCD s = .next (movRegReg .c .d s) := rfl
@[simp] theorem exec_movCE (s : State) : exec .movCE s = .next (movRegReg .c .e s) := rfl
@[simp] theorem exec_movCH (s : State) : exec .movCH s = .next (movRegReg .c .h s) := rfl
@[simp] theorem exec_movCL (s : State) : exec .movCL s = .next (movRegReg .c .l s) := rfl
@[simp] theorem exec_movCM (s : State) : exec .movCM s = .next (movRegMem .c s) := rfl
@[simp] theorem exec_movCA (s : State) : exec .movCA s = .next (movRegReg .c .a s) := rfl
@[simp] theorem exec_movDB (s : State) : exec .movDB s = .next (movRegReg .d .b s) := rfl
@[simp] theorem exec_movDC (s : State) : exec .movDC s = .next (movRegReg .d .c s) := rfl
@[simp] theorem exec_movDD (s : State) : exec .movDD s = .next (movRegReg .d .d s) := rfl
@[simp] theorem exec_movDE (s : State) : exec .movDE s = .next (movRegReg .d .e s) := rfl
@[simp] theorem exec_movDH (s : State) : exec .movDH s = .next (movRegReg .d .h s) := rfl
@[simp] theorem exec_movDL (s : State) : exec .movDL s = .next (movRegReg .d .l s) := rfl
@[simp] theorem exec_movDM (s : State) : exec .movDM s = .next (movRegMem .d s) := rfl
@[simp] theorem exec_movDA (s : State) : exec .movDA s = .next (movRegReg .d .a s) := rfl
@[simp] theorem exec_movEB (s : State) : exec .movEB s = .next (movRegReg .e .b s) := rfl
@[simp] theorem exec_movEC (s : State) : exec .movEC s = .next (movRegReg .e .c s) := rfl
@[simp] theorem exec_movED (s : State) : exec .movED s = .next (movRegReg .e .d s) := rfl
@[simp] theorem exec_movEE (s : State) : exec .movEE s = .next (movRegReg .e .e s) := rfl
@[simp] theorem exec_movEH (s : State) : exec .movEH s = .next (movRegReg .e .h s) := rfl
@[simp] theorem exec_movEL (s : State) : exec .movEL s = .next (movRegReg .e .l s) := rfl
@[simp] theorem exec_movEM (s : State) : exec .movEM s = .next (movRegMem .e s) := rfl
@[simp] theorem exec_movEA (s : State) : exec .movEA s = .next (movRegReg .e .a s) := rfl
@[simp] theorem exec_movHB (s : State) : exec .movHB s = .next (movRegReg .h .b s) := rfl
@[simp] theorem exec_movHC (s : State) : exec .movHC s = .next (movRegReg .h .c s) := rfl
@[simp] theorem exec_movHD (s : State) : exec .movHD s = .next (movRegReg .h .d s) := rfl
@[simp] theorem exec_movHE (s : State) : exec .movHE s = .next (movRegReg .h .e s) := rfl
@[simp] theorem exec_movHH (s : State) : exec .movHH s = .next (movRegReg .h .h s) := rfl
@[simp] theorem exec_movHL (s : State) : exec .movHL s = .next (movRegReg .h .l s) := rfl
@[simp] theorem exec_movHM (s : State) : exec .movHM s = .next (movRegMem .h s) := rfl
@[simp] theorem exec_movHA (s : State) : exec .movHA s = .next (movRegReg .h .a s) := rfl
@[simp] theorem exec_movLB (s : State) : exec .movLB s = .next (movRegReg .l .b s) := rfl
@[simp] theorem exec_movLC (s : State) : exec .movLC s = .next (movRegReg .l .c s) := rfl
@[simp] theorem exec_movLD (s : State) : exec .movLD s = .next (movRegReg .l .d s) := rfl
@[simp] theorem exec_movLE (s : State) : exec .movLE s = .next (movRegReg .l .e s) := rfl
@[simp] theorem exec_movLH (s : State) : exec .movLH s = .next (movRegReg .l .h s) := rfl
@[simp] theorem exec_movLL (s : State) : exec .movLL s = .next (movRegReg .l .l s) := rfl
@[simp] theorem exec_movLM (s : State) : exec .movLM s = .next (movRegMem .l s) := rfl
@[simp] theorem exec_movLA (s : State) : exec .movLA s = .next (movRegReg .l .a s) := rfl
@[simp] theorem exec_movMB (s : State) : exec .movMB s = .next (movMemReg .b s) := rfl
@[simp] theorem exec_movMC (s : State) : exec .movMC s = .next (movMemReg .c s) := rfl
@[simp] theorem exec_movMD (s : State) : exec .movMD s = .next (movMemReg .d s) := rfl
@[simp] theorem exec_movME (s : State) : exec .movME s = .next (movMemReg .e s) := rfl
@[simp] theorem exec_movMH (s : State) : exec .movMH s = .next (movMemReg .h s) := rfl
@[simp] theorem exec_movML (s : State) : exec .movML s = .next (movMemReg .l s) := rfl
@[simp] theorem exec_hlt (s : State) : exec .hlt s = .next ({ s with halted := true }) := rfl
@[simp] theorem exec_movMA (s : State) : exec .movMA s = .next (movMemReg .a s) := rfl
@[simp] theorem exec_movAB (s : State) : exec .movAB s = .next (movRegReg .a .b s) := rfl
@[simp] theorem exec_movAC (s : State) : exec .movAC s = .next (movRegReg .a .c s) := rfl
@[simp] theorem exec_movAD (s : State) : exec .movAD s = .next (movRegReg .a .d s) := rfl
@[simp] theorem exec_movAE (s : State) : exec .movAE s = .next (movRegReg .a .e s) := rfl
@[simp] theorem exec_movAH (s : State) : exec .movAH s = .next (movRegReg .a .h s) := rfl
@[simp] theorem exec_movAL (s : State) : exec .movAL s = .next (movRegReg .a .l s) := rfl
@[simp] theorem exec_movAM (s : State) : exec .movAM s = .next (movRegMem .a s) := rfl
@[simp] theorem exec_movAA (s : State) : exec .movAA s = .next (movRegReg .a .a s) := rfl
@[simp] theorem exec_addB (s : State) : exec .addB s = .next (aluAdd (readR8 (.reg .b) s) s) := rfl
@[simp] theorem exec_addC (s : State) : exec .addC s = .next (aluAdd (readR8 (.reg .c) s) s) := rfl
@[simp] theorem exec_addD (s : State) : exec .addD s = .next (aluAdd (readR8 (.reg .d) s) s) := rfl
@[simp] theorem exec_addE (s : State) : exec .addE s = .next (aluAdd (readR8 (.reg .e) s) s) := rfl
@[simp] theorem exec_addH (s : State) : exec .addH s = .next (aluAdd (readR8 (.reg .h) s) s) := rfl
@[simp] theorem exec_addL (s : State) : exec .addL s = .next (aluAdd (readR8 (.reg .l) s) s) := rfl
@[simp] theorem exec_addM (s : State) : exec .addM s = .next (aluAdd (readR8 .m s) s) := rfl
@[simp] theorem exec_addA (s : State) : exec .addA s = .next (aluAdd (readR8 (.reg .a) s) s) := rfl
@[simp] theorem exec_adcB (s : State) : exec .adcB s = .next (aluAdc (readR8 (.reg .b) s) s) := rfl
@[simp] theorem exec_adcC (s : State) : exec .adcC s = .next (aluAdc (readR8 (.reg .c) s) s) := rfl
@[simp] theorem exec_adcD (s : State) : exec .adcD s = .next (aluAdc (readR8 (.reg .d) s) s) := rfl
@[simp] theorem exec_adcE (s : State) : exec .adcE s = .next (aluAdc (readR8 (.reg .e) s) s) := rfl
@[simp] theorem exec_adcH (s : State) : exec .adcH s = .next (aluAdc (readR8 (.reg .h) s) s) := rfl
@[simp] theorem exec_adcL (s : State) : exec .adcL s = .next (aluAdc (readR8 (.reg .l) s) s) := rfl
@[simp] theorem exec_adcM (s : State) : exec .adcM s = .next (aluAdc (readR8 .m s) s) := rfl
@[simp] theorem exec_adcA (s : State) : exec .adcA s = .next (aluAdc (readR8 (.reg .a) s) s) := rfl
@[simp] theorem exec_subB (s : State) : exec .subB s = .next (aluSub (readR8 (.reg .b) s) s) := rfl
@[simp] theorem exec_subC (s : State) : exec .subC s = .next (aluSub (readR8 (.reg .c) s) s) := rfl
@[simp] theorem exec_subD (s : State) : exec .subD s = .next (aluSub (readR8 (.reg .d) s) s) := rfl
@[simp] theorem exec_subE (s : State) : exec .subE s = .next (aluSub (readR8 (.reg .e) s) s) := rfl
@[simp] theorem exec_subH (s : State) : exec .subH s = .next (aluSub (readR8 (.reg .h) s) s) := rfl
@[simp] theorem exec_subL (s : State) : exec .subL s = .next (aluSub (readR8 (.reg .l) s) s) := rfl
@[simp] theorem exec_subM (s : State) : exec .subM s = .next (aluSub (readR8 .m s) s) := rfl
@[simp] theorem exec_subA (s : State) : exec .subA s = .next (aluSub (readR8 (.reg .a) s) s) := rfl
@[simp] theorem exec_sbbB (s : State) : exec .sbbB s = .next (aluSbb (readR8 (.reg .b) s) s) := rfl
@[simp] theorem exec_sbbC (s : State) : exec .sbbC s = .next (aluSbb (readR8 (.reg .c) s) s) := rfl
@[simp] theorem exec_sbbD (s : State) : exec .sbbD s = .next (aluSbb (readR8 (.reg .d) s) s) := rfl
@[simp] theorem exec_sbbE (s : State) : exec .sbbE s = .next (aluSbb (readR8 (.reg .e) s) s) := rfl
@[simp] theorem exec_sbbH (s : State) : exec .sbbH s = .next (aluSbb (readR8 (.reg .h) s) s) := rfl
@[simp] theorem exec_sbbL (s : State) : exec .sbbL s = .next (aluSbb (readR8 (.reg .l) s) s) := rfl
@[simp] theorem exec_sbbM (s : State) : exec .sbbM s = .next (aluSbb (readR8 .m s) s) := rfl
@[simp] theorem exec_sbbA (s : State) : exec .sbbA s = .next (aluSbb (readR8 (.reg .a) s) s) := rfl
@[simp] theorem exec_anaB (s : State) : exec .anaB s = .next (aluAna (readR8 (.reg .b) s) s) := rfl
@[simp] theorem exec_anaC (s : State) : exec .anaC s = .next (aluAna (readR8 (.reg .c) s) s) := rfl
@[simp] theorem exec_anaD (s : State) : exec .anaD s = .next (aluAna (readR8 (.reg .d) s) s) := rfl
@[simp] theorem exec_anaE (s : State) : exec .anaE s = .next (aluAna (readR8 (.reg .e) s) s) := rfl
@[simp] theorem exec_anaH (s : State) : exec .anaH s = .next (aluAna (readR8 (.reg .h) s) s) := rfl
@[simp] theorem exec_anaL (s : State) : exec .anaL s = .next (aluAna (readR8 (.reg .l) s) s) := rfl
@[simp] theorem exec_anaM (s : State) : exec .anaM s = .next (aluAna (readR8 .m s) s) := rfl
@[simp] theorem exec_anaA (s : State) : exec .anaA s = .next (aluAna (readR8 (.reg .a) s) s) := rfl
@[simp] theorem exec_xraB (s : State) : exec .xraB s = .next (aluXra (readR8 (.reg .b) s) s) := rfl
@[simp] theorem exec_xraC (s : State) : exec .xraC s = .next (aluXra (readR8 (.reg .c) s) s) := rfl
@[simp] theorem exec_xraD (s : State) : exec .xraD s = .next (aluXra (readR8 (.reg .d) s) s) := rfl
@[simp] theorem exec_xraE (s : State) : exec .xraE s = .next (aluXra (readR8 (.reg .e) s) s) := rfl
@[simp] theorem exec_xraH (s : State) : exec .xraH s = .next (aluXra (readR8 (.reg .h) s) s) := rfl
@[simp] theorem exec_xraL (s : State) : exec .xraL s = .next (aluXra (readR8 (.reg .l) s) s) := rfl
@[simp] theorem exec_xraM (s : State) : exec .xraM s = .next (aluXra (readR8 .m s) s) := rfl
@[simp] theorem exec_xraA (s : State) : exec .xraA s = .next (aluXra (readR8 (.reg .a) s) s) := rfl
@[simp] theorem exec_oraB (s : State) : exec .oraB s = .next (aluOra (readR8 (.reg .b) s) s) := rfl
@[simp] theorem exec_oraC (s : State) : exec .oraC s = .next (aluOra (readR8 (.reg .c) s) s) := rfl
@[simp] theorem exec_oraD (s : State) : exec .oraD s = .next (aluOra (readR8 (.reg .d) s) s) := rfl
@[simp] theorem exec_oraE (s : State) : exec .oraE s = .next (aluOra (readR8 (.reg .e) s) s) := rfl
@[simp] theorem exec_oraH (s : State) : exec .oraH s = .next (aluOra (readR8 (.reg .h) s) s) := rfl
@[simp] theorem exec_oraL (s : State) : exec .oraL s = .next (aluOra (readR8 (.reg .l) s) s) := rfl
@[simp] theorem exec_oraM (s : State) : exec .oraM s = .next (aluOra (readR8 .m s) s) := rfl
@[simp] theorem exec_oraA (s : State) : exec .oraA s = .next (aluOra (readR8 (.reg .a) s) s) := rfl
@[simp] theorem exec_cmpB (s : State) : exec .cmpB s = .next (aluCmp (readR8 (.reg .b) s) s) := rfl
@[simp] theorem exec_cmpC (s : State) : exec .cmpC s = .next (aluCmp (readR8 (.reg .c) s) s) := rfl
@[simp] theorem exec_cmpD (s : State) : exec .cmpD s = .next (aluCmp (readR8 (.reg .d) s) s) := rfl
@[simp] theorem exec_cmpE (s : State) : exec .cmpE s = .next (aluCmp (readR8 (.reg .e) s) s) := rfl
@[simp] theorem exec_cmpH (s : State) : exec .cmpH s = .next (aluCmp (readR8 (.reg .h) s) s) := rfl
@[simp] theorem exec_cmpL (s : State) : exec .cmpL s = .next (aluCmp (readR8 (.reg .l) s) s) := rfl
@[simp] theorem exec_cmpM (s : State) : exec .cmpM s = .next (aluCmp (readR8 .m s) s) := rfl
@[simp] theorem exec_cmpA (s : State) : exec .cmpA s = .next (aluCmp (readR8 (.reg .a) s) s) := rfl
@[simp] theorem exec_rnz (s : State) : exec .rnz s = .next (returnIf .nz s) := rfl
@[simp] theorem exec_popB (s : State) : exec .popB s = .next (popPair .bc s) := rfl
@[simp] theorem exec_jnz (w : Word) (s : State) : exec (.jnz w) s = .next (jumpIf .nz w s) := rfl
@[simp] theorem exec_jmp (w : Word) (s : State) : exec (.jmp w) s = .next (jumpTo w s) := rfl
@[simp] theorem exec_cnz (w : Word) (s : State) : exec (.cnz w) s = .next (callIf .nz w s) := rfl
@[simp] theorem exec_pushB (s : State) : exec .pushB s = .next (pushPair .bc s) := rfl
@[simp] theorem exec_adi (v : Byte) (s : State) : exec (.adi v) s = .next (aluAdd v s) := rfl
@[simp] theorem exec_rst0 (s : State) : exec .rst0 s = .next (restart 0 s) := rfl
@[simp] theorem exec_rz (s : State) : exec .rz s = .next (returnIf .z s) := rfl
@[simp] theorem exec_ret (s : State) : exec .ret s = .next (returnFrom s) := rfl
@[simp] theorem exec_jz (w : Word) (s : State) : exec (.jz w) s = .next (jumpIf .z w s) := rfl
@[simp] theorem exec_jmpAlias (w : Word) (s : State) : exec (.jmpAlias w) s = .next (jumpTo w s) := rfl
@[simp] theorem exec_cz (w : Word) (s : State) : exec (.cz w) s = .next (callIf .z w s) := rfl
@[simp] theorem exec_call (w : Word) (s : State) : exec (.call w) s = .next (callTo w s) := rfl
@[simp] theorem exec_aci (v : Byte) (s : State) : exec (.aci v) s = .next (aluAdc v s) := rfl
@[simp] theorem exec_rst1 (s : State) : exec .rst1 s = .next (restart 1 s) := rfl
@[simp] theorem exec_rnc (s : State) : exec .rnc s = .next (returnIf .nc s) := rfl
@[simp] theorem exec_popD (s : State) : exec .popD s = .next (popPair .de s) := rfl
@[simp] theorem exec_jnc (w : Word) (s : State) : exec (.jnc w) s = .next (jumpIf .nc w s) := rfl
@[simp] theorem exec_outPort (v : Byte) (s : State) : exec (.outPort v) s = .next (ioOut v s.a s) := rfl
@[simp] theorem exec_cnc (w : Word) (s : State) : exec (.cnc w) s = .next (callIf .nc w s) := rfl
@[simp] theorem exec_pushD (s : State) : exec .pushD s = .next (pushPair .de s) := rfl
@[simp] theorem exec_sui (v : Byte) (s : State) : exec (.sui v) s = .next (aluSub v s) := rfl
@[simp] theorem exec_rst2 (s : State) : exec .rst2 s = .next (restart 2 s) := rfl
@[simp] theorem exec_rc (s : State) : exec .rc s = .next (returnIf .c s) := rfl
@[simp] theorem exec_retAlias (s : State) : exec .retAlias s = .next (returnFrom s) := rfl
@[simp] theorem exec_jc (w : Word) (s : State) : exec (.jc w) s = .next (jumpIf .c w s) := rfl
@[simp] theorem exec_inPort (v : Byte) (s : State) : exec (.inPort v) s = .next (regWrite .a (ioValue v s) (ioAfterIn v s)) := rfl
@[simp] theorem exec_cc (w : Word) (s : State) : exec (.cc w) s = .next (callIf .c w s) := rfl
@[simp] theorem exec_callAliasDD (w : Word) (s : State) : exec (.callAliasDD w) s = .next (callTo w s) := rfl
@[simp] theorem exec_sbi (v : Byte) (s : State) : exec (.sbi v) s = .next (aluSbb v s) := rfl
@[simp] theorem exec_rst3 (s : State) : exec .rst3 s = .next (restart 3 s) := rfl
@[simp] theorem exec_rpo (s : State) : exec .rpo s = .next (returnIf .po s) := rfl
@[simp] theorem exec_popH (s : State) : exec .popH s = .next (popPair .hl s) := rfl
@[simp] theorem exec_jpo (w : Word) (s : State) : exec (.jpo w) s = .next (jumpIf .po w s) := rfl
@[simp] theorem exec_xthl (s : State) : exec .xthl s = .next (exchangeTop s) := rfl
@[simp] theorem exec_cpo (w : Word) (s : State) : exec (.cpo w) s = .next (callIf .po w s) := rfl
@[simp] theorem exec_pushH (s : State) : exec .pushH s = .next (pushPair .hl s) := rfl
@[simp] theorem exec_ani (v : Byte) (s : State) : exec (.ani v) s = .next (aluAna v s) := rfl
@[simp] theorem exec_rst4 (s : State) : exec .rst4 s = .next (restart 4 s) := rfl
@[simp] theorem exec_rpe (s : State) : exec .rpe s = .next (returnIf .pe s) := rfl
@[simp] theorem exec_pchl (s : State) : exec .pchl s = .next (jumpTo (hl s) s) := rfl
@[simp] theorem exec_jpe (w : Word) (s : State) : exec (.jpe w) s = .next (jumpIf .pe w s) := rfl
@[simp] theorem exec_xchg (s : State) : exec .xchg s = .next (setHl (de s) (setDe (hl s) s)) := rfl
@[simp] theorem exec_cpe (w : Word) (s : State) : exec (.cpe w) s = .next (callIf .pe w s) := rfl
@[simp] theorem exec_callAliasED (w : Word) (s : State) : exec (.callAliasED w) s = .next (callTo w s) := rfl
@[simp] theorem exec_xri (v : Byte) (s : State) : exec (.xri v) s = .next (aluXra v s) := rfl
@[simp] theorem exec_rst5 (s : State) : exec .rst5 s = .next (restart 5 s) := rfl
@[simp] theorem exec_rp (s : State) : exec .rp s = .next (returnIf .p s) := rfl
@[simp] theorem exec_popPsw (s : State) : exec .popPsw s = .next (popPair .psw s) := rfl
@[simp] theorem exec_jp (w : Word) (s : State) : exec (.jp w) s = .next (jumpIf .p w s) := rfl
@[simp] theorem exec_di (s : State) : exec .di s = .next s := rfl
@[simp] theorem exec_cp (w : Word) (s : State) : exec (.cp w) s = .next (callIf .p w s) := rfl
@[simp] theorem exec_pushPsw (s : State) : exec .pushPsw s = .next (pushPair .psw s) := rfl
@[simp] theorem exec_ori (v : Byte) (s : State) : exec (.ori v) s = .next (aluOra v s) := rfl
@[simp] theorem exec_rst6 (s : State) : exec .rst6 s = .next (restart 6 s) := rfl
@[simp] theorem exec_rm (s : State) : exec .rm s = .next (returnIf .m s) := rfl
@[simp] theorem exec_sphl (s : State) : exec .sphl s = .next ({ s with sp := hl s }) := rfl
@[simp] theorem exec_jm (w : Word) (s : State) : exec (.jm w) s = .next (jumpIf .m w s) := rfl
@[simp] theorem exec_ei (s : State) : exec .ei s = .next s := rfl
@[simp] theorem exec_cm (w : Word) (s : State) : exec (.cm w) s = .next (callIf .m w s) := rfl
@[simp] theorem exec_callAliasFD (w : Word) (s : State) : exec (.callAliasFD w) s = .next (callTo w s) := rfl
@[simp] theorem exec_cpi (v : Byte) (s : State) : exec (.cpi v) s = .next (aluCmp v s) := rfl
@[simp] theorem exec_rst7 (s : State) : exec .rst7 s = .next (restart 7 s) := rfl

end Sys2Proof.Machine
end

