-- ==== Sys2Proof/Laws/Flags.lean ====
section
/-! SUPPORT. What the functions of the flag engine give, in numbers (40_flag_engine.md R121 to R135). -/

namespace Sys2Proof.Machine

@[simp] theorem bit_true : bit true = 1 := rfl
@[simp] theorem bit_false : bit false = 0 := rfl
theorem bit_le (x : Bool) : bit x ≤ 1 := by cases x <;> decide
theorem bit_eq_toNat (x : Bool) : bit x = x.toNat := by cases x <;> rfl

/-! ## The flag byte -/

@[simp] theorem flagsOfByte_flagByte (f : Flags) : flagsOfByte (flagByte f) = f := by
  obtain ⟨s, z, ac, p, cy⟩ := f
  cases s <;> cases z <;> cases ac <;> cases p <;> cases cy <;> rfl

/-- The flag byte after a write of it: bits 5 and 3 are 0, bit 1 is 1 (R28). -/
theorem flagByte_flagsOfByte (v : Byte) : flagByte (flagsOfByte v) = (v &&& 0xD7) ||| 0x02 := by
  revert v; decide +kernel

/-! ## Results -/

@[simp] theorem resultWith_res (r : Byte) (ac cy : Bool) : (resultWith r ac cy).res = r := rfl
@[simp] theorem resultWith_s (r : Byte) (ac cy : Bool) : (resultWith r ac cy).flags.s = r.getLsbD 7 := rfl
@[simp] theorem resultWith_z (r : Byte) (ac cy : Bool) : (resultWith r ac cy).flags.z = decide (r = 0) := rfl
@[simp] theorem resultWith_ac (r : Byte) (ac cy : Bool) : (resultWith r ac cy).flags.ac = ac := rfl
@[simp] theorem resultWith_p (r : Byte) (ac cy : Bool) : (resultWith r ac cy).flags.p = parityEven r := by
  simp only [resultWith]
@[simp] theorem resultWith_cy (r : Byte) (ac cy : Bool) : (resultWith r ac cy).flags.cy = cy := rfl

theorem add8_res (a b : Byte) (c : Bool) : (add8 a b c).res.toNat = (a.toNat + b.toNat + bit c) % 256 := by
  simp [add8]

theorem add8_ac (a b : Byte) (c : Bool) :
    (add8 a b c).flags.ac = decide (a.toNat % 16 + b.toNat % 16 + bit c > 15) := rfl

theorem add8_cy (a b : Byte) (c : Bool) : (add8 a b c).flags.cy = decide (a.toNat + b.toNat + bit c > 255) := rfl

theorem sub8_res (a b : Byte) (c : Bool) :
    ((sub8 a b c).res.toNat : Int) = ((a.toNat : Int) - b.toNat - bit c) % 256 := by
  simp [sub8, BitVec.toNat_ofInt]; omega

theorem sub8_ac (a b : Byte) (c : Bool) : (sub8 a b c).flags.ac = decide (a.toNat % 16 < b.toNat % 16 + bit c) := rfl

theorem sub8_cy (a b : Byte) (c : Bool) : (sub8 a b c).flags.cy = decide (a.toNat < b.toNat + bit c) := by
  simp only [sub8, resultWith_cy, decide_eq_decide]; omega

theorem and8_res (a b : Byte) : (and8 a b).res = a &&& b := rfl
theorem xor8_res (a b : Byte) : (xor8 a b).res = a ^^^ b := rfl
theorem or8_res (a b : Byte) : (or8 a b).res = a ||| b := rfl

theorem inc8_res (v : Byte) (c : Bool) : (inc8 v c).res.toNat = (v.toNat + 1) % 256 := by
  simp [inc8]

theorem inc8_ac (v : Byte) (c : Bool) : (inc8 v c).flags.ac = decide (v.toNat % 16 = 15) := by
  simp only [inc8, lowNibble, resultWith_ac]; congr 1; simp; omega

@[simp] theorem inc8_cy (v : Byte) (c : Bool) : (inc8 v c).flags.cy = c := rfl

theorem dec8_res (v : Byte) (c : Bool) : ((dec8 v c).res.toNat : Int) = ((v.toNat : Int) - 1) % 256 := by
  simp [dec8, BitVec.toNat_ofInt]; omega

theorem dec8_ac (v : Byte) (c : Bool) : (dec8 v c).flags.ac = decide (v.toNat % 16 = 0) := rfl

@[simp] theorem dec8_cy (v : Byte) (c : Bool) : (dec8 v c).flags.cy = c := rfl

theorem daa8_ac (a : Byte) (f : Flags) : (daa8 a f).flags.ac = (decide (a.toNat % 16 > 9) || f.ac) := rfl

theorem daa8_cy (a : Byte) (f : Flags) : (daa8 a f).flags.cy = (decide (a.toNat > 0x99) || f.cy) := rfl

theorem daa8_res (a : Byte) (f : Flags) :
    (daa8 a f).res.toNat = (a.toNat + 0x06 * bit (daa8 a f).flags.ac + 0x60 * bit (daa8 a f).flags.cy) % 256 := by
  have h : (daa8 a f).res = BitVec.ofNat 8 (a.toNat + ((if (daa8 a f).flags.ac then 0x06 else 0) +
      (if (daa8 a f).flags.cy then 0x60 else 0))) := rfl
  rw [h]
  generalize (daa8 a f).flags.ac = x
  generalize (daa8 a f).flags.cy = y
  cases x <;> cases y <;> simp [Nat.add_assoc, Nat.mod_eq_of_lt a.isLt]

end Sys2Proof.Machine
end

