-- ==== Sys2Proof/Laws/State.lean ====
section
/-! SUPPORT. What each named update does to each field of the state, so that no proof unfolds one. -/

namespace Sys2Proof.Machine

/-- States that agree in every field are equal. -/
@[ext] theorem State.ext {s t : State} (ha : s.a = t.a) (hb : s.b = t.b) (hc : s.c = t.c) (hd : s.d = t.d) (he : s.e = t.e) (hh : s.h = t.h) (hl : s.l = t.l) (hsp : s.sp = t.sp) (hpc : s.pc = t.pc) (hflags : s.flags = t.flags) (hhalted : s.halted = t.halted) (hmem : s.mem = t.mem) (hio : s.io = t.io) (hioDraws : s.ioDraws = t.ioDraws) (hioTrace : s.ioTrace = t.ioTrace) : s = t := by
  cases s; cases t; simp_all

/-! ## advancePc -/

@[simp] theorem advancePc_a (s : State) : (advancePc s).a = s.a := rfl
@[simp] theorem advancePc_b (s : State) : (advancePc s).b = s.b := rfl
@[simp] theorem advancePc_c (s : State) : (advancePc s).c = s.c := rfl
@[simp] theorem advancePc_d (s : State) : (advancePc s).d = s.d := rfl
@[simp] theorem advancePc_e (s : State) : (advancePc s).e = s.e := rfl
@[simp] theorem advancePc_h (s : State) : (advancePc s).h = s.h := rfl
@[simp] theorem advancePc_l (s : State) : (advancePc s).l = s.l := rfl
@[simp] theorem advancePc_sp (s : State) : (advancePc s).sp = s.sp := rfl
@[simp] theorem advancePc_pc (s : State) : (advancePc s).pc = s.pc + 1 := rfl
@[simp] theorem advancePc_flags (s : State) : (advancePc s).flags = s.flags := rfl
@[simp] theorem advancePc_halted (s : State) : (advancePc s).halted = s.halted := rfl
@[simp] theorem advancePc_mem (s : State) : (advancePc s).mem = s.mem := rfl
@[simp] theorem advancePc_io (s : State) : (advancePc s).io = s.io := rfl
@[simp] theorem advancePc_ioDraws (s : State) : (advancePc s).ioDraws = s.ioDraws := rfl
@[simp] theorem advancePc_ioTrace (s : State) : (advancePc s).ioTrace = s.ioTrace := rfl
@[simp] theorem memRead_advancePc (s : State) (y : Word) : memRead y (advancePc s) = memRead y s := rfl

/-! ## memWrite -/

@[simp] theorem memWrite_a (x : Word) (v : Byte) (s : State) : (memWrite x v s).a = s.a := rfl
@[simp] theorem memWrite_b (x : Word) (v : Byte) (s : State) : (memWrite x v s).b = s.b := rfl
@[simp] theorem memWrite_c (x : Word) (v : Byte) (s : State) : (memWrite x v s).c = s.c := rfl
@[simp] theorem memWrite_d (x : Word) (v : Byte) (s : State) : (memWrite x v s).d = s.d := rfl
@[simp] theorem memWrite_e (x : Word) (v : Byte) (s : State) : (memWrite x v s).e = s.e := rfl
@[simp] theorem memWrite_h (x : Word) (v : Byte) (s : State) : (memWrite x v s).h = s.h := rfl
@[simp] theorem memWrite_l (x : Word) (v : Byte) (s : State) : (memWrite x v s).l = s.l := rfl
@[simp] theorem memWrite_sp (x : Word) (v : Byte) (s : State) : (memWrite x v s).sp = s.sp := rfl
@[simp] theorem memWrite_pc (x : Word) (v : Byte) (s : State) : (memWrite x v s).pc = s.pc := rfl
@[simp] theorem memWrite_flags (x : Word) (v : Byte) (s : State) : (memWrite x v s).flags = s.flags := rfl
@[simp] theorem memWrite_halted (x : Word) (v : Byte) (s : State) : (memWrite x v s).halted = s.halted := rfl
@[simp] theorem memWrite_mem (x : Word) (v : Byte) (s : State) : (memWrite x v s).mem = s.mem.writeAt x.toNat v := rfl
@[simp] theorem memWrite_io (x : Word) (v : Byte) (s : State) : (memWrite x v s).io = s.io := rfl
@[simp] theorem memWrite_ioDraws (x : Word) (v : Byte) (s : State) : (memWrite x v s).ioDraws = s.ioDraws := rfl
@[simp] theorem memWrite_ioTrace (x : Word) (v : Byte) (s : State) : (memWrite x v s).ioTrace = s.ioTrace := rfl

/-! ## write16 -/

@[simp] theorem write16_a (x v : Word) (s : State) : (write16 x v s).a = s.a := rfl
@[simp] theorem write16_b (x v : Word) (s : State) : (write16 x v s).b = s.b := rfl
@[simp] theorem write16_c (x v : Word) (s : State) : (write16 x v s).c = s.c := rfl
@[simp] theorem write16_d (x v : Word) (s : State) : (write16 x v s).d = s.d := rfl
@[simp] theorem write16_e (x v : Word) (s : State) : (write16 x v s).e = s.e := rfl
@[simp] theorem write16_h (x v : Word) (s : State) : (write16 x v s).h = s.h := rfl
@[simp] theorem write16_l (x v : Word) (s : State) : (write16 x v s).l = s.l := rfl
@[simp] theorem write16_sp (x v : Word) (s : State) : (write16 x v s).sp = s.sp := rfl
@[simp] theorem write16_pc (x v : Word) (s : State) : (write16 x v s).pc = s.pc := rfl
@[simp] theorem write16_flags (x v : Word) (s : State) : (write16 x v s).flags = s.flags := rfl
@[simp] theorem write16_halted (x v : Word) (s : State) : (write16 x v s).halted = s.halted := rfl
@[simp] theorem write16_mem (x v : Word) (s : State) : (write16 x v s).mem = (s.mem.writeAt x.toNat (loByte v)).writeAt (x + 1).toNat (hiByte v) := rfl
@[simp] theorem write16_io (x v : Word) (s : State) : (write16 x v s).io = s.io := rfl
@[simp] theorem write16_ioDraws (x v : Word) (s : State) : (write16 x v s).ioDraws = s.ioDraws := rfl
@[simp] theorem write16_ioTrace (x v : Word) (s : State) : (write16 x v s).ioTrace = s.ioTrace := rfl

/-! ## push16 -/

@[simp] theorem push16_a (v : Word) (s : State) : (push16 v s).a = s.a := rfl
@[simp] theorem push16_b (v : Word) (s : State) : (push16 v s).b = s.b := rfl
@[simp] theorem push16_c (v : Word) (s : State) : (push16 v s).c = s.c := rfl
@[simp] theorem push16_d (v : Word) (s : State) : (push16 v s).d = s.d := rfl
@[simp] theorem push16_e (v : Word) (s : State) : (push16 v s).e = s.e := rfl
@[simp] theorem push16_h (v : Word) (s : State) : (push16 v s).h = s.h := rfl
@[simp] theorem push16_l (v : Word) (s : State) : (push16 v s).l = s.l := rfl
@[simp] theorem push16_sp (v : Word) (s : State) : (push16 v s).sp = s.sp - 2 := rfl
@[simp] theorem push16_pc (v : Word) (s : State) : (push16 v s).pc = s.pc := rfl
@[simp] theorem push16_flags (v : Word) (s : State) : (push16 v s).flags = s.flags := rfl
@[simp] theorem push16_halted (v : Word) (s : State) : (push16 v s).halted = s.halted := rfl
@[simp] theorem push16_mem (v : Word) (s : State) : (push16 v s).mem = (s.mem.writeAt (s.sp - 1).toNat (hiByte v)).writeAt (s.sp - 2).toNat (loByte v) := rfl
@[simp] theorem push16_io (v : Word) (s : State) : (push16 v s).io = s.io := rfl
@[simp] theorem push16_ioDraws (v : Word) (s : State) : (push16 v s).ioDraws = s.ioDraws := rfl
@[simp] theorem push16_ioTrace (v : Word) (s : State) : (push16 v s).ioTrace = s.ioTrace := rfl

/-! ## dropStack -/

@[simp] theorem dropStack_a (s : State) : (dropStack s).a = s.a := rfl
@[simp] theorem dropStack_b (s : State) : (dropStack s).b = s.b := rfl
@[simp] theorem dropStack_c (s : State) : (dropStack s).c = s.c := rfl
@[simp] theorem dropStack_d (s : State) : (dropStack s).d = s.d := rfl
@[simp] theorem dropStack_e (s : State) : (dropStack s).e = s.e := rfl
@[simp] theorem dropStack_h (s : State) : (dropStack s).h = s.h := rfl
@[simp] theorem dropStack_l (s : State) : (dropStack s).l = s.l := rfl
@[simp] theorem dropStack_sp (s : State) : (dropStack s).sp = s.sp + 2 := rfl
@[simp] theorem dropStack_pc (s : State) : (dropStack s).pc = s.pc := rfl
@[simp] theorem dropStack_flags (s : State) : (dropStack s).flags = s.flags := rfl
@[simp] theorem dropStack_halted (s : State) : (dropStack s).halted = s.halted := rfl
@[simp] theorem dropStack_mem (s : State) : (dropStack s).mem = s.mem := rfl
@[simp] theorem dropStack_io (s : State) : (dropStack s).io = s.io := rfl
@[simp] theorem dropStack_ioDraws (s : State) : (dropStack s).ioDraws = s.ioDraws := rfl
@[simp] theorem dropStack_ioTrace (s : State) : (dropStack s).ioTrace = s.ioTrace := rfl
@[simp] theorem memRead_dropStack (s : State) (y : Word) : memRead y (dropStack s) = memRead y s := rfl

/-! ## ioOut -/

@[simp] theorem ioOut_a (p v : Byte) (s : State) : (ioOut p v s).a = s.a := rfl
@[simp] theorem ioOut_b (p v : Byte) (s : State) : (ioOut p v s).b = s.b := rfl
@[simp] theorem ioOut_c (p v : Byte) (s : State) : (ioOut p v s).c = s.c := rfl
@[simp] theorem ioOut_d (p v : Byte) (s : State) : (ioOut p v s).d = s.d := rfl
@[simp] theorem ioOut_e (p v : Byte) (s : State) : (ioOut p v s).e = s.e := rfl
@[simp] theorem ioOut_h (p v : Byte) (s : State) : (ioOut p v s).h = s.h := rfl
@[simp] theorem ioOut_l (p v : Byte) (s : State) : (ioOut p v s).l = s.l := rfl
@[simp] theorem ioOut_sp (p v : Byte) (s : State) : (ioOut p v s).sp = s.sp := rfl
@[simp] theorem ioOut_pc (p v : Byte) (s : State) : (ioOut p v s).pc = s.pc := rfl
@[simp] theorem ioOut_flags (p v : Byte) (s : State) : (ioOut p v s).flags = s.flags := rfl
@[simp] theorem ioOut_halted (p v : Byte) (s : State) : (ioOut p v s).halted = s.halted := rfl
@[simp] theorem ioOut_mem (p v : Byte) (s : State) : (ioOut p v s).mem = s.mem := rfl
@[simp] theorem ioOut_io (p v : Byte) (s : State) : (ioOut p v s).io = s.io := rfl
@[simp] theorem ioOut_ioDraws (p v : Byte) (s : State) : (ioOut p v s).ioDraws = s.ioDraws := rfl
@[simp] theorem ioOut_ioTrace (p v : Byte) (s : State) : (ioOut p v s).ioTrace = s.ioTrace ++ [.output p v] := rfl
@[simp] theorem memRead_ioOut (p v : Byte) (s : State) (y : Word) : memRead y (ioOut p v s) = memRead y s := rfl

/-! ## ioAfterIn -/

@[simp] theorem ioAfterIn_a (p : Byte) (s : State) : (ioAfterIn p s).a = s.a := rfl
@[simp] theorem ioAfterIn_b (p : Byte) (s : State) : (ioAfterIn p s).b = s.b := rfl
@[simp] theorem ioAfterIn_c (p : Byte) (s : State) : (ioAfterIn p s).c = s.c := rfl
@[simp] theorem ioAfterIn_d (p : Byte) (s : State) : (ioAfterIn p s).d = s.d := rfl
@[simp] theorem ioAfterIn_e (p : Byte) (s : State) : (ioAfterIn p s).e = s.e := rfl
@[simp] theorem ioAfterIn_h (p : Byte) (s : State) : (ioAfterIn p s).h = s.h := rfl
@[simp] theorem ioAfterIn_l (p : Byte) (s : State) : (ioAfterIn p s).l = s.l := rfl
@[simp] theorem ioAfterIn_sp (p : Byte) (s : State) : (ioAfterIn p s).sp = s.sp := rfl
@[simp] theorem ioAfterIn_pc (p : Byte) (s : State) : (ioAfterIn p s).pc = s.pc := rfl
@[simp] theorem ioAfterIn_flags (p : Byte) (s : State) : (ioAfterIn p s).flags = s.flags := rfl
@[simp] theorem ioAfterIn_halted (p : Byte) (s : State) : (ioAfterIn p s).halted = s.halted := rfl
@[simp] theorem ioAfterIn_mem (p : Byte) (s : State) : (ioAfterIn p s).mem = s.mem := rfl
@[simp] theorem ioAfterIn_io (p : Byte) (s : State) : (ioAfterIn p s).io = s.io := rfl
@[simp] theorem ioAfterIn_ioTrace (p : Byte) (s : State) : (ioAfterIn p s).ioTrace = s.ioTrace ++ [.input p (ioValue p s)] := rfl
@[simp] theorem memRead_ioAfterIn (p : Byte) (s : State) (y : Word) : memRead y (ioAfterIn p s) = memRead y s := rfl

/-! ## setBc -/

@[simp] theorem setBc_a (v : Word) (s : State) : (setBc v s).a = s.a := rfl
@[simp] theorem setBc_b (v : Word) (s : State) : (setBc v s).b = hiByte v := rfl
@[simp] theorem setBc_c (v : Word) (s : State) : (setBc v s).c = loByte v := rfl
@[simp] theorem setBc_d (v : Word) (s : State) : (setBc v s).d = s.d := rfl
@[simp] theorem setBc_e (v : Word) (s : State) : (setBc v s).e = s.e := rfl
@[simp] theorem setBc_h (v : Word) (s : State) : (setBc v s).h = s.h := rfl
@[simp] theorem setBc_l (v : Word) (s : State) : (setBc v s).l = s.l := rfl
@[simp] theorem setBc_sp (v : Word) (s : State) : (setBc v s).sp = s.sp := rfl
@[simp] theorem setBc_pc (v : Word) (s : State) : (setBc v s).pc = s.pc := rfl
@[simp] theorem setBc_flags (v : Word) (s : State) : (setBc v s).flags = s.flags := rfl
@[simp] theorem setBc_halted (v : Word) (s : State) : (setBc v s).halted = s.halted := rfl
@[simp] theorem setBc_mem (v : Word) (s : State) : (setBc v s).mem = s.mem := rfl
@[simp] theorem setBc_io (v : Word) (s : State) : (setBc v s).io = s.io := rfl
@[simp] theorem setBc_ioDraws (v : Word) (s : State) : (setBc v s).ioDraws = s.ioDraws := rfl
@[simp] theorem setBc_ioTrace (v : Word) (s : State) : (setBc v s).ioTrace = s.ioTrace := rfl
@[simp] theorem memRead_setBc (v : Word) (s : State) (y : Word) : memRead y (setBc v s) = memRead y s := rfl

/-! ## setDe -/

@[simp] theorem setDe_a (v : Word) (s : State) : (setDe v s).a = s.a := rfl
@[simp] theorem setDe_b (v : Word) (s : State) : (setDe v s).b = s.b := rfl
@[simp] theorem setDe_c (v : Word) (s : State) : (setDe v s).c = s.c := rfl
@[simp] theorem setDe_d (v : Word) (s : State) : (setDe v s).d = hiByte v := rfl
@[simp] theorem setDe_e (v : Word) (s : State) : (setDe v s).e = loByte v := rfl
@[simp] theorem setDe_h (v : Word) (s : State) : (setDe v s).h = s.h := rfl
@[simp] theorem setDe_l (v : Word) (s : State) : (setDe v s).l = s.l := rfl
@[simp] theorem setDe_sp (v : Word) (s : State) : (setDe v s).sp = s.sp := rfl
@[simp] theorem setDe_pc (v : Word) (s : State) : (setDe v s).pc = s.pc := rfl
@[simp] theorem setDe_flags (v : Word) (s : State) : (setDe v s).flags = s.flags := rfl
@[simp] theorem setDe_halted (v : Word) (s : State) : (setDe v s).halted = s.halted := rfl
@[simp] theorem setDe_mem (v : Word) (s : State) : (setDe v s).mem = s.mem := rfl
@[simp] theorem setDe_io (v : Word) (s : State) : (setDe v s).io = s.io := rfl
@[simp] theorem setDe_ioDraws (v : Word) (s : State) : (setDe v s).ioDraws = s.ioDraws := rfl
@[simp] theorem setDe_ioTrace (v : Word) (s : State) : (setDe v s).ioTrace = s.ioTrace := rfl
@[simp] theorem memRead_setDe (v : Word) (s : State) (y : Word) : memRead y (setDe v s) = memRead y s := rfl

/-! ## setHl -/

@[simp] theorem setHl_a (v : Word) (s : State) : (setHl v s).a = s.a := rfl
@[simp] theorem setHl_b (v : Word) (s : State) : (setHl v s).b = s.b := rfl
@[simp] theorem setHl_c (v : Word) (s : State) : (setHl v s).c = s.c := rfl
@[simp] theorem setHl_d (v : Word) (s : State) : (setHl v s).d = s.d := rfl
@[simp] theorem setHl_e (v : Word) (s : State) : (setHl v s).e = s.e := rfl
@[simp] theorem setHl_h (v : Word) (s : State) : (setHl v s).h = hiByte v := rfl
@[simp] theorem setHl_l (v : Word) (s : State) : (setHl v s).l = loByte v := rfl
@[simp] theorem setHl_sp (v : Word) (s : State) : (setHl v s).sp = s.sp := rfl
@[simp] theorem setHl_pc (v : Word) (s : State) : (setHl v s).pc = s.pc := rfl
@[simp] theorem setHl_flags (v : Word) (s : State) : (setHl v s).flags = s.flags := rfl
@[simp] theorem setHl_halted (v : Word) (s : State) : (setHl v s).halted = s.halted := rfl
@[simp] theorem setHl_mem (v : Word) (s : State) : (setHl v s).mem = s.mem := rfl
@[simp] theorem setHl_io (v : Word) (s : State) : (setHl v s).io = s.io := rfl
@[simp] theorem setHl_ioDraws (v : Word) (s : State) : (setHl v s).ioDraws = s.ioDraws := rfl
@[simp] theorem setHl_ioTrace (v : Word) (s : State) : (setHl v s).ioTrace = s.ioTrace := rfl
@[simp] theorem memRead_setHl (v : Word) (s : State) (y : Word) : memRead y (setHl v s) = memRead y s := rfl

/-! ## setPsw -/

@[simp] theorem setPsw_a (v : Word) (s : State) : (setPsw v s).a = hiByte v := rfl
@[simp] theorem setPsw_b (v : Word) (s : State) : (setPsw v s).b = s.b := rfl
@[simp] theorem setPsw_c (v : Word) (s : State) : (setPsw v s).c = s.c := rfl
@[simp] theorem setPsw_d (v : Word) (s : State) : (setPsw v s).d = s.d := rfl
@[simp] theorem setPsw_e (v : Word) (s : State) : (setPsw v s).e = s.e := rfl
@[simp] theorem setPsw_h (v : Word) (s : State) : (setPsw v s).h = s.h := rfl
@[simp] theorem setPsw_l (v : Word) (s : State) : (setPsw v s).l = s.l := rfl
@[simp] theorem setPsw_sp (v : Word) (s : State) : (setPsw v s).sp = s.sp := rfl
@[simp] theorem setPsw_pc (v : Word) (s : State) : (setPsw v s).pc = s.pc := rfl
@[simp] theorem setPsw_flags (v : Word) (s : State) : (setPsw v s).flags = flagsOfByte (loByte v) := rfl
@[simp] theorem setPsw_halted (v : Word) (s : State) : (setPsw v s).halted = s.halted := rfl
@[simp] theorem setPsw_mem (v : Word) (s : State) : (setPsw v s).mem = s.mem := rfl
@[simp] theorem setPsw_io (v : Word) (s : State) : (setPsw v s).io = s.io := rfl
@[simp] theorem setPsw_ioDraws (v : Word) (s : State) : (setPsw v s).ioDraws = s.ioDraws := rfl
@[simp] theorem setPsw_ioTrace (v : Word) (s : State) : (setPsw v s).ioTrace = s.ioTrace := rfl
@[simp] theorem memRead_setPsw (v : Word) (s : State) (y : Word) : memRead y (setPsw v s) = memRead y s := rfl

/-! ## applyToA -/

@[simp] theorem applyToA_a (r : AluResult) (s : State) : (applyToA r s).a = r.res := rfl
@[simp] theorem applyToA_b (r : AluResult) (s : State) : (applyToA r s).b = s.b := rfl
@[simp] theorem applyToA_c (r : AluResult) (s : State) : (applyToA r s).c = s.c := rfl
@[simp] theorem applyToA_d (r : AluResult) (s : State) : (applyToA r s).d = s.d := rfl
@[simp] theorem applyToA_e (r : AluResult) (s : State) : (applyToA r s).e = s.e := rfl
@[simp] theorem applyToA_h (r : AluResult) (s : State) : (applyToA r s).h = s.h := rfl
@[simp] theorem applyToA_l (r : AluResult) (s : State) : (applyToA r s).l = s.l := rfl
@[simp] theorem applyToA_sp (r : AluResult) (s : State) : (applyToA r s).sp = s.sp := rfl
@[simp] theorem applyToA_pc (r : AluResult) (s : State) : (applyToA r s).pc = s.pc := rfl
@[simp] theorem applyToA_flags (r : AluResult) (s : State) : (applyToA r s).flags = r.flags := rfl
@[simp] theorem applyToA_halted (r : AluResult) (s : State) : (applyToA r s).halted = s.halted := rfl
@[simp] theorem applyToA_mem (r : AluResult) (s : State) : (applyToA r s).mem = s.mem := rfl
@[simp] theorem applyToA_io (r : AluResult) (s : State) : (applyToA r s).io = s.io := rfl
@[simp] theorem applyToA_ioDraws (r : AluResult) (s : State) : (applyToA r s).ioDraws = s.ioDraws := rfl
@[simp] theorem applyToA_ioTrace (r : AluResult) (s : State) : (applyToA r s).ioTrace = s.ioTrace := rfl
@[simp] theorem memRead_applyToA (r : AluResult) (s : State) (y : Word) : memRead y (applyToA r s) = memRead y s := rfl

/-! ## setCy -/

@[simp] theorem setCy_a (x : Bool) (s : State) : (setCy x s).a = s.a := rfl
@[simp] theorem setCy_b (x : Bool) (s : State) : (setCy x s).b = s.b := rfl
@[simp] theorem setCy_c (x : Bool) (s : State) : (setCy x s).c = s.c := rfl
@[simp] theorem setCy_d (x : Bool) (s : State) : (setCy x s).d = s.d := rfl
@[simp] theorem setCy_e (x : Bool) (s : State) : (setCy x s).e = s.e := rfl
@[simp] theorem setCy_h (x : Bool) (s : State) : (setCy x s).h = s.h := rfl
@[simp] theorem setCy_l (x : Bool) (s : State) : (setCy x s).l = s.l := rfl
@[simp] theorem setCy_sp (x : Bool) (s : State) : (setCy x s).sp = s.sp := rfl
@[simp] theorem setCy_pc (x : Bool) (s : State) : (setCy x s).pc = s.pc := rfl
@[simp] theorem setCy_flags (x : Bool) (s : State) : (setCy x s).flags = { s.flags with cy := x } := rfl
@[simp] theorem setCy_halted (x : Bool) (s : State) : (setCy x s).halted = s.halted := rfl
@[simp] theorem setCy_mem (x : Bool) (s : State) : (setCy x s).mem = s.mem := rfl
@[simp] theorem setCy_io (x : Bool) (s : State) : (setCy x s).io = s.io := rfl
@[simp] theorem setCy_ioDraws (x : Bool) (s : State) : (setCy x s).ioDraws = s.ioDraws := rfl
@[simp] theorem setCy_ioTrace (x : Bool) (s : State) : (setCy x s).ioTrace = s.ioTrace := rfl
@[simp] theorem memRead_setCy (x : Bool) (s : State) (y : Word) : memRead y (setCy x s) = memRead y s := rfl

/-! ## jumpTo -/

@[simp] theorem jumpTo_a (w : Word) (s : State) : (jumpTo w s).a = s.a := rfl
@[simp] theorem jumpTo_b (w : Word) (s : State) : (jumpTo w s).b = s.b := rfl
@[simp] theorem jumpTo_c (w : Word) (s : State) : (jumpTo w s).c = s.c := rfl
@[simp] theorem jumpTo_d (w : Word) (s : State) : (jumpTo w s).d = s.d := rfl
@[simp] theorem jumpTo_e (w : Word) (s : State) : (jumpTo w s).e = s.e := rfl
@[simp] theorem jumpTo_h (w : Word) (s : State) : (jumpTo w s).h = s.h := rfl
@[simp] theorem jumpTo_l (w : Word) (s : State) : (jumpTo w s).l = s.l := rfl
@[simp] theorem jumpTo_sp (w : Word) (s : State) : (jumpTo w s).sp = s.sp := rfl
@[simp] theorem jumpTo_pc (w : Word) (s : State) : (jumpTo w s).pc = w := rfl
@[simp] theorem jumpTo_flags (w : Word) (s : State) : (jumpTo w s).flags = s.flags := rfl
@[simp] theorem jumpTo_halted (w : Word) (s : State) : (jumpTo w s).halted = s.halted := rfl
@[simp] theorem jumpTo_mem (w : Word) (s : State) : (jumpTo w s).mem = s.mem := rfl
@[simp] theorem jumpTo_io (w : Word) (s : State) : (jumpTo w s).io = s.io := rfl
@[simp] theorem jumpTo_ioDraws (w : Word) (s : State) : (jumpTo w s).ioDraws = s.ioDraws := rfl
@[simp] theorem jumpTo_ioTrace (w : Word) (s : State) : (jumpTo w s).ioTrace = s.ioTrace := rfl
@[simp] theorem memRead_jumpTo (w : Word) (s : State) (y : Word) : memRead y (jumpTo w s) = memRead y s := rfl

/-! ## regWrite -/

@[simp] theorem regWrite_sp (r : Reg) (v : Byte) (s : State) : (regWrite r v s).sp = s.sp := by
  cases r <;> rfl
@[simp] theorem regWrite_pc (r : Reg) (v : Byte) (s : State) : (regWrite r v s).pc = s.pc := by
  cases r <;> rfl
@[simp] theorem regWrite_flags (r : Reg) (v : Byte) (s : State) : (regWrite r v s).flags = s.flags := by
  cases r <;> rfl
@[simp] theorem regWrite_halted (r : Reg) (v : Byte) (s : State) : (regWrite r v s).halted = s.halted := by
  cases r <;> rfl
@[simp] theorem regWrite_mem (r : Reg) (v : Byte) (s : State) : (regWrite r v s).mem = s.mem := by
  cases r <;> rfl
@[simp] theorem regWrite_io (r : Reg) (v : Byte) (s : State) : (regWrite r v s).io = s.io := by
  cases r <;> rfl
@[simp] theorem regWrite_ioDraws (r : Reg) (v : Byte) (s : State) : (regWrite r v s).ioDraws = s.ioDraws := by
  cases r <;> rfl
@[simp] theorem regWrite_ioTrace (r : Reg) (v : Byte) (s : State) : (regWrite r v s).ioTrace = s.ioTrace := by
  cases r <;> rfl
@[simp] theorem memRead_regWrite (r : Reg) (v : Byte) (s : State) (y : Word) : memRead y (regWrite r v s) = memRead y s := by
  cases r <;> rfl

/-! ## setRP -/

@[simp] theorem setRP_a (p : RegPair) (v : Word) (s : State) : (setRP p v s).a = s.a := by
  cases p <;> rfl
@[simp] theorem setRP_pc (p : RegPair) (v : Word) (s : State) : (setRP p v s).pc = s.pc := by
  cases p <;> rfl
@[simp] theorem setRP_flags (p : RegPair) (v : Word) (s : State) : (setRP p v s).flags = s.flags := by
  cases p <;> rfl
@[simp] theorem setRP_halted (p : RegPair) (v : Word) (s : State) : (setRP p v s).halted = s.halted := by
  cases p <;> rfl
@[simp] theorem setRP_mem (p : RegPair) (v : Word) (s : State) : (setRP p v s).mem = s.mem := by
  cases p <;> rfl
@[simp] theorem setRP_io (p : RegPair) (v : Word) (s : State) : (setRP p v s).io = s.io := by
  cases p <;> rfl
@[simp] theorem setRP_ioDraws (p : RegPair) (v : Word) (s : State) : (setRP p v s).ioDraws = s.ioDraws := by
  cases p <;> rfl
@[simp] theorem setRP_ioTrace (p : RegPair) (v : Word) (s : State) : (setRP p v s).ioTrace = s.ioTrace := by
  cases p <;> rfl
@[simp] theorem memRead_setRP (p : RegPair) (v : Word) (s : State) (y : Word) : memRead y (setRP p v s) = memRead y s := by
  cases p <;> rfl

/-! ## setStackPair -/

@[simp] theorem setStackPair_sp (p : StackPair) (v : Word) (s : State) : (setStackPair p v s).sp = s.sp := by
  cases p <;> rfl
@[simp] theorem setStackPair_pc (p : StackPair) (v : Word) (s : State) : (setStackPair p v s).pc = s.pc := by
  cases p <;> rfl
@[simp] theorem setStackPair_halted (p : StackPair) (v : Word) (s : State) : (setStackPair p v s).halted = s.halted := by
  cases p <;> rfl
@[simp] theorem setStackPair_mem (p : StackPair) (v : Word) (s : State) : (setStackPair p v s).mem = s.mem := by
  cases p <;> rfl
@[simp] theorem setStackPair_io (p : StackPair) (v : Word) (s : State) : (setStackPair p v s).io = s.io := by
  cases p <;> rfl
@[simp] theorem setStackPair_ioDraws (p : StackPair) (v : Word) (s : State) : (setStackPair p v s).ioDraws = s.ioDraws := by
  cases p <;> rfl
@[simp] theorem setStackPair_ioTrace (p : StackPair) (v : Word) (s : State) : (setStackPair p v s).ioTrace = s.ioTrace := by
  cases p <;> rfl
@[simp] theorem memRead_setStackPair (p : StackPair) (v : Word) (s : State) (y : Word) : memRead y (setStackPair p v s) = memRead y s := by
  cases p <;> rfl

/-! ## writeR8 -/

@[simp] theorem writeR8_sp (x : Operand8) (v : Byte) (s : State) : (writeR8 x v s).sp = s.sp := by
  cases x with
  | reg r => cases r <;> rfl
  | m => rfl
@[simp] theorem writeR8_pc (x : Operand8) (v : Byte) (s : State) : (writeR8 x v s).pc = s.pc := by
  cases x with
  | reg r => cases r <;> rfl
  | m => rfl
@[simp] theorem writeR8_flags (x : Operand8) (v : Byte) (s : State) : (writeR8 x v s).flags = s.flags := by
  cases x with
  | reg r => cases r <;> rfl
  | m => rfl
@[simp] theorem writeR8_halted (x : Operand8) (v : Byte) (s : State) : (writeR8 x v s).halted = s.halted := by
  cases x with
  | reg r => cases r <;> rfl
  | m => rfl
@[simp] theorem writeR8_io (x : Operand8) (v : Byte) (s : State) : (writeR8 x v s).io = s.io := by
  cases x with
  | reg r => cases r <;> rfl
  | m => rfl
@[simp] theorem writeR8_ioDraws (x : Operand8) (v : Byte) (s : State) : (writeR8 x v s).ioDraws = s.ioDraws := by
  cases x with
  | reg r => cases r <;> rfl
  | m => rfl
@[simp] theorem writeR8_ioTrace (x : Operand8) (v : Byte) (s : State) : (writeR8 x v s).ioTrace = s.ioTrace := by
  cases x with
  | reg r => cases r <;> rfl
  | m => rfl

end Sys2Proof.Machine
end

