-- ==== Sys2Proof/Laws/Frames.lean ====
section
/-! SUPPORT. What each operation the meanings share does to each field of the state: the frames of the meanings, and the new
value of a field where it is one. -/

namespace Sys2Proof.Machine

/-! ## movRegReg -/

@[simp] theorem movRegReg_sp (dst r : Reg) (s : State) : (movRegReg dst r s).sp = s.sp := by
  cases dst <;> rfl
@[simp] theorem movRegReg_pc (dst r : Reg) (s : State) : (movRegReg dst r s).pc = s.pc := by
  cases dst <;> rfl
@[simp] theorem movRegReg_flags (dst r : Reg) (s : State) : (movRegReg dst r s).flags = s.flags := by
  cases dst <;> rfl
@[simp] theorem movRegReg_halted (dst r : Reg) (s : State) : (movRegReg dst r s).halted = s.halted := by
  cases dst <;> rfl
@[simp] theorem movRegReg_mem (dst r : Reg) (s : State) : (movRegReg dst r s).mem = s.mem := by
  cases dst <;> rfl
@[simp] theorem movRegReg_io (dst r : Reg) (s : State) : (movRegReg dst r s).io = s.io := by
  cases dst <;> rfl
@[simp] theorem movRegReg_ioDraws (dst r : Reg) (s : State) : (movRegReg dst r s).ioDraws = s.ioDraws := by
  cases dst <;> rfl
@[simp] theorem movRegReg_ioTrace (dst r : Reg) (s : State) : (movRegReg dst r s).ioTrace = s.ioTrace := by
  cases dst <;> rfl

/-! ## movRegMem -/

@[simp] theorem movRegMem_sp (dst : Reg) (s : State) : (movRegMem dst s).sp = s.sp := by
  cases dst <;> rfl
@[simp] theorem movRegMem_pc (dst : Reg) (s : State) : (movRegMem dst s).pc = s.pc := by
  cases dst <;> rfl
@[simp] theorem movRegMem_flags (dst : Reg) (s : State) : (movRegMem dst s).flags = s.flags := by
  cases dst <;> rfl
@[simp] theorem movRegMem_halted (dst : Reg) (s : State) : (movRegMem dst s).halted = s.halted := by
  cases dst <;> rfl
@[simp] theorem movRegMem_mem (dst : Reg) (s : State) : (movRegMem dst s).mem = s.mem := by
  cases dst <;> rfl
@[simp] theorem movRegMem_io (dst : Reg) (s : State) : (movRegMem dst s).io = s.io := by
  cases dst <;> rfl
@[simp] theorem movRegMem_ioDraws (dst : Reg) (s : State) : (movRegMem dst s).ioDraws = s.ioDraws := by
  cases dst <;> rfl
@[simp] theorem movRegMem_ioTrace (dst : Reg) (s : State) : (movRegMem dst s).ioTrace = s.ioTrace := by
  cases dst <;> rfl

/-! ## movMemReg -/

@[simp] theorem movMemReg_a (r : Reg) (s : State) : (movMemReg r s).a = s.a := rfl
@[simp] theorem movMemReg_b (r : Reg) (s : State) : (movMemReg r s).b = s.b := rfl
@[simp] theorem movMemReg_c (r : Reg) (s : State) : (movMemReg r s).c = s.c := rfl
@[simp] theorem movMemReg_d (r : Reg) (s : State) : (movMemReg r s).d = s.d := rfl
@[simp] theorem movMemReg_e (r : Reg) (s : State) : (movMemReg r s).e = s.e := rfl
@[simp] theorem movMemReg_h (r : Reg) (s : State) : (movMemReg r s).h = s.h := rfl
@[simp] theorem movMemReg_l (r : Reg) (s : State) : (movMemReg r s).l = s.l := rfl
@[simp] theorem movMemReg_sp (r : Reg) (s : State) : (movMemReg r s).sp = s.sp := rfl
@[simp] theorem movMemReg_pc (r : Reg) (s : State) : (movMemReg r s).pc = s.pc := rfl
@[simp] theorem movMemReg_flags (r : Reg) (s : State) : (movMemReg r s).flags = s.flags := rfl
@[simp] theorem movMemReg_halted (r : Reg) (s : State) : (movMemReg r s).halted = s.halted := rfl
@[simp] theorem movMemReg_mem (r : Reg) (s : State) : (movMemReg r s).mem = s.mem.writeAt (hl s).toNat (regRead r s) := rfl
@[simp] theorem movMemReg_io (r : Reg) (s : State) : (movMemReg r s).io = s.io := rfl
@[simp] theorem movMemReg_ioDraws (r : Reg) (s : State) : (movMemReg r s).ioDraws = s.ioDraws := rfl
@[simp] theorem movMemReg_ioTrace (r : Reg) (s : State) : (movMemReg r s).ioTrace = s.ioTrace := rfl

/-! ## aluAdd -/

@[simp] theorem aluAdd_a (v : Byte) (s : State) : (aluAdd v s).a = (add8 s.a v false).res := rfl
@[simp] theorem aluAdd_b (v : Byte) (s : State) : (aluAdd v s).b = s.b := rfl
@[simp] theorem aluAdd_c (v : Byte) (s : State) : (aluAdd v s).c = s.c := rfl
@[simp] theorem aluAdd_d (v : Byte) (s : State) : (aluAdd v s).d = s.d := rfl
@[simp] theorem aluAdd_e (v : Byte) (s : State) : (aluAdd v s).e = s.e := rfl
@[simp] theorem aluAdd_h (v : Byte) (s : State) : (aluAdd v s).h = s.h := rfl
@[simp] theorem aluAdd_l (v : Byte) (s : State) : (aluAdd v s).l = s.l := rfl
@[simp] theorem aluAdd_sp (v : Byte) (s : State) : (aluAdd v s).sp = s.sp := rfl
@[simp] theorem aluAdd_pc (v : Byte) (s : State) : (aluAdd v s).pc = s.pc := rfl
@[simp] theorem aluAdd_flags (v : Byte) (s : State) : (aluAdd v s).flags = (add8 s.a v false).flags := rfl
@[simp] theorem aluAdd_halted (v : Byte) (s : State) : (aluAdd v s).halted = s.halted := rfl
@[simp] theorem aluAdd_mem (v : Byte) (s : State) : (aluAdd v s).mem = s.mem := rfl
@[simp] theorem aluAdd_io (v : Byte) (s : State) : (aluAdd v s).io = s.io := rfl
@[simp] theorem aluAdd_ioDraws (v : Byte) (s : State) : (aluAdd v s).ioDraws = s.ioDraws := rfl
@[simp] theorem aluAdd_ioTrace (v : Byte) (s : State) : (aluAdd v s).ioTrace = s.ioTrace := rfl

/-! ## aluAdc -/

@[simp] theorem aluAdc_a (v : Byte) (s : State) : (aluAdc v s).a = (add8 s.a v s.flags.cy).res := rfl
@[simp] theorem aluAdc_b (v : Byte) (s : State) : (aluAdc v s).b = s.b := rfl
@[simp] theorem aluAdc_c (v : Byte) (s : State) : (aluAdc v s).c = s.c := rfl
@[simp] theorem aluAdc_d (v : Byte) (s : State) : (aluAdc v s).d = s.d := rfl
@[simp] theorem aluAdc_e (v : Byte) (s : State) : (aluAdc v s).e = s.e := rfl
@[simp] theorem aluAdc_h (v : Byte) (s : State) : (aluAdc v s).h = s.h := rfl
@[simp] theorem aluAdc_l (v : Byte) (s : State) : (aluAdc v s).l = s.l := rfl
@[simp] theorem aluAdc_sp (v : Byte) (s : State) : (aluAdc v s).sp = s.sp := rfl
@[simp] theorem aluAdc_pc (v : Byte) (s : State) : (aluAdc v s).pc = s.pc := rfl
@[simp] theorem aluAdc_flags (v : Byte) (s : State) : (aluAdc v s).flags = (add8 s.a v s.flags.cy).flags := rfl
@[simp] theorem aluAdc_halted (v : Byte) (s : State) : (aluAdc v s).halted = s.halted := rfl
@[simp] theorem aluAdc_mem (v : Byte) (s : State) : (aluAdc v s).mem = s.mem := rfl
@[simp] theorem aluAdc_io (v : Byte) (s : State) : (aluAdc v s).io = s.io := rfl
@[simp] theorem aluAdc_ioDraws (v : Byte) (s : State) : (aluAdc v s).ioDraws = s.ioDraws := rfl
@[simp] theorem aluAdc_ioTrace (v : Byte) (s : State) : (aluAdc v s).ioTrace = s.ioTrace := rfl

/-! ## aluSub -/

@[simp] theorem aluSub_a (v : Byte) (s : State) : (aluSub v s).a = (sub8 s.a v false).res := rfl
@[simp] theorem aluSub_b (v : Byte) (s : State) : (aluSub v s).b = s.b := rfl
@[simp] theorem aluSub_c (v : Byte) (s : State) : (aluSub v s).c = s.c := rfl
@[simp] theorem aluSub_d (v : Byte) (s : State) : (aluSub v s).d = s.d := rfl
@[simp] theorem aluSub_e (v : Byte) (s : State) : (aluSub v s).e = s.e := rfl
@[simp] theorem aluSub_h (v : Byte) (s : State) : (aluSub v s).h = s.h := rfl
@[simp] theorem aluSub_l (v : Byte) (s : State) : (aluSub v s).l = s.l := rfl
@[simp] theorem aluSub_sp (v : Byte) (s : State) : (aluSub v s).sp = s.sp := rfl
@[simp] theorem aluSub_pc (v : Byte) (s : State) : (aluSub v s).pc = s.pc := rfl
@[simp] theorem aluSub_flags (v : Byte) (s : State) : (aluSub v s).flags = (sub8 s.a v false).flags := rfl
@[simp] theorem aluSub_halted (v : Byte) (s : State) : (aluSub v s).halted = s.halted := rfl
@[simp] theorem aluSub_mem (v : Byte) (s : State) : (aluSub v s).mem = s.mem := rfl
@[simp] theorem aluSub_io (v : Byte) (s : State) : (aluSub v s).io = s.io := rfl
@[simp] theorem aluSub_ioDraws (v : Byte) (s : State) : (aluSub v s).ioDraws = s.ioDraws := rfl
@[simp] theorem aluSub_ioTrace (v : Byte) (s : State) : (aluSub v s).ioTrace = s.ioTrace := rfl

/-! ## aluSbb -/

@[simp] theorem aluSbb_a (v : Byte) (s : State) : (aluSbb v s).a = (sub8 s.a v s.flags.cy).res := rfl
@[simp] theorem aluSbb_b (v : Byte) (s : State) : (aluSbb v s).b = s.b := rfl
@[simp] theorem aluSbb_c (v : Byte) (s : State) : (aluSbb v s).c = s.c := rfl
@[simp] theorem aluSbb_d (v : Byte) (s : State) : (aluSbb v s).d = s.d := rfl
@[simp] theorem aluSbb_e (v : Byte) (s : State) : (aluSbb v s).e = s.e := rfl
@[simp] theorem aluSbb_h (v : Byte) (s : State) : (aluSbb v s).h = s.h := rfl
@[simp] theorem aluSbb_l (v : Byte) (s : State) : (aluSbb v s).l = s.l := rfl
@[simp] theorem aluSbb_sp (v : Byte) (s : State) : (aluSbb v s).sp = s.sp := rfl
@[simp] theorem aluSbb_pc (v : Byte) (s : State) : (aluSbb v s).pc = s.pc := rfl
@[simp] theorem aluSbb_flags (v : Byte) (s : State) : (aluSbb v s).flags = (sub8 s.a v s.flags.cy).flags := rfl
@[simp] theorem aluSbb_halted (v : Byte) (s : State) : (aluSbb v s).halted = s.halted := rfl
@[simp] theorem aluSbb_mem (v : Byte) (s : State) : (aluSbb v s).mem = s.mem := rfl
@[simp] theorem aluSbb_io (v : Byte) (s : State) : (aluSbb v s).io = s.io := rfl
@[simp] theorem aluSbb_ioDraws (v : Byte) (s : State) : (aluSbb v s).ioDraws = s.ioDraws := rfl
@[simp] theorem aluSbb_ioTrace (v : Byte) (s : State) : (aluSbb v s).ioTrace = s.ioTrace := rfl

/-! ## aluAna -/

@[simp] theorem aluAna_a (v : Byte) (s : State) : (aluAna v s).a = s.a &&& v := rfl
@[simp] theorem aluAna_b (v : Byte) (s : State) : (aluAna v s).b = s.b := rfl
@[simp] theorem aluAna_c (v : Byte) (s : State) : (aluAna v s).c = s.c := rfl
@[simp] theorem aluAna_d (v : Byte) (s : State) : (aluAna v s).d = s.d := rfl
@[simp] theorem aluAna_e (v : Byte) (s : State) : (aluAna v s).e = s.e := rfl
@[simp] theorem aluAna_h (v : Byte) (s : State) : (aluAna v s).h = s.h := rfl
@[simp] theorem aluAna_l (v : Byte) (s : State) : (aluAna v s).l = s.l := rfl
@[simp] theorem aluAna_sp (v : Byte) (s : State) : (aluAna v s).sp = s.sp := rfl
@[simp] theorem aluAna_pc (v : Byte) (s : State) : (aluAna v s).pc = s.pc := rfl
@[simp] theorem aluAna_flags (v : Byte) (s : State) : (aluAna v s).flags = (and8 s.a v).flags := rfl
@[simp] theorem aluAna_halted (v : Byte) (s : State) : (aluAna v s).halted = s.halted := rfl
@[simp] theorem aluAna_mem (v : Byte) (s : State) : (aluAna v s).mem = s.mem := rfl
@[simp] theorem aluAna_io (v : Byte) (s : State) : (aluAna v s).io = s.io := rfl
@[simp] theorem aluAna_ioDraws (v : Byte) (s : State) : (aluAna v s).ioDraws = s.ioDraws := rfl
@[simp] theorem aluAna_ioTrace (v : Byte) (s : State) : (aluAna v s).ioTrace = s.ioTrace := rfl

/-! ## aluXra -/

@[simp] theorem aluXra_a (v : Byte) (s : State) : (aluXra v s).a = s.a ^^^ v := rfl
@[simp] theorem aluXra_b (v : Byte) (s : State) : (aluXra v s).b = s.b := rfl
@[simp] theorem aluXra_c (v : Byte) (s : State) : (aluXra v s).c = s.c := rfl
@[simp] theorem aluXra_d (v : Byte) (s : State) : (aluXra v s).d = s.d := rfl
@[simp] theorem aluXra_e (v : Byte) (s : State) : (aluXra v s).e = s.e := rfl
@[simp] theorem aluXra_h (v : Byte) (s : State) : (aluXra v s).h = s.h := rfl
@[simp] theorem aluXra_l (v : Byte) (s : State) : (aluXra v s).l = s.l := rfl
@[simp] theorem aluXra_sp (v : Byte) (s : State) : (aluXra v s).sp = s.sp := rfl
@[simp] theorem aluXra_pc (v : Byte) (s : State) : (aluXra v s).pc = s.pc := rfl
@[simp] theorem aluXra_flags (v : Byte) (s : State) : (aluXra v s).flags = (xor8 s.a v).flags := rfl
@[simp] theorem aluXra_halted (v : Byte) (s : State) : (aluXra v s).halted = s.halted := rfl
@[simp] theorem aluXra_mem (v : Byte) (s : State) : (aluXra v s).mem = s.mem := rfl
@[simp] theorem aluXra_io (v : Byte) (s : State) : (aluXra v s).io = s.io := rfl
@[simp] theorem aluXra_ioDraws (v : Byte) (s : State) : (aluXra v s).ioDraws = s.ioDraws := rfl
@[simp] theorem aluXra_ioTrace (v : Byte) (s : State) : (aluXra v s).ioTrace = s.ioTrace := rfl

/-! ## aluOra -/

@[simp] theorem aluOra_a (v : Byte) (s : State) : (aluOra v s).a = s.a ||| v := rfl
@[simp] theorem aluOra_b (v : Byte) (s : State) : (aluOra v s).b = s.b := rfl
@[simp] theorem aluOra_c (v : Byte) (s : State) : (aluOra v s).c = s.c := rfl
@[simp] theorem aluOra_d (v : Byte) (s : State) : (aluOra v s).d = s.d := rfl
@[simp] theorem aluOra_e (v : Byte) (s : State) : (aluOra v s).e = s.e := rfl
@[simp] theorem aluOra_h (v : Byte) (s : State) : (aluOra v s).h = s.h := rfl
@[simp] theorem aluOra_l (v : Byte) (s : State) : (aluOra v s).l = s.l := rfl
@[simp] theorem aluOra_sp (v : Byte) (s : State) : (aluOra v s).sp = s.sp := rfl
@[simp] theorem aluOra_pc (v : Byte) (s : State) : (aluOra v s).pc = s.pc := rfl
@[simp] theorem aluOra_flags (v : Byte) (s : State) : (aluOra v s).flags = (or8 s.a v).flags := rfl
@[simp] theorem aluOra_halted (v : Byte) (s : State) : (aluOra v s).halted = s.halted := rfl
@[simp] theorem aluOra_mem (v : Byte) (s : State) : (aluOra v s).mem = s.mem := rfl
@[simp] theorem aluOra_io (v : Byte) (s : State) : (aluOra v s).io = s.io := rfl
@[simp] theorem aluOra_ioDraws (v : Byte) (s : State) : (aluOra v s).ioDraws = s.ioDraws := rfl
@[simp] theorem aluOra_ioTrace (v : Byte) (s : State) : (aluOra v s).ioTrace = s.ioTrace := rfl

/-! ## aluCmp -/

@[simp] theorem aluCmp_a (v : Byte) (s : State) : (aluCmp v s).a = s.a := rfl
@[simp] theorem aluCmp_b (v : Byte) (s : State) : (aluCmp v s).b = s.b := rfl
@[simp] theorem aluCmp_c (v : Byte) (s : State) : (aluCmp v s).c = s.c := rfl
@[simp] theorem aluCmp_d (v : Byte) (s : State) : (aluCmp v s).d = s.d := rfl
@[simp] theorem aluCmp_e (v : Byte) (s : State) : (aluCmp v s).e = s.e := rfl
@[simp] theorem aluCmp_h (v : Byte) (s : State) : (aluCmp v s).h = s.h := rfl
@[simp] theorem aluCmp_l (v : Byte) (s : State) : (aluCmp v s).l = s.l := rfl
@[simp] theorem aluCmp_sp (v : Byte) (s : State) : (aluCmp v s).sp = s.sp := rfl
@[simp] theorem aluCmp_pc (v : Byte) (s : State) : (aluCmp v s).pc = s.pc := rfl
@[simp] theorem aluCmp_flags (v : Byte) (s : State) : (aluCmp v s).flags = (sub8 s.a v false).flags := rfl
@[simp] theorem aluCmp_halted (v : Byte) (s : State) : (aluCmp v s).halted = s.halted := rfl
@[simp] theorem aluCmp_mem (v : Byte) (s : State) : (aluCmp v s).mem = s.mem := rfl
@[simp] theorem aluCmp_io (v : Byte) (s : State) : (aluCmp v s).io = s.io := rfl
@[simp] theorem aluCmp_ioDraws (v : Byte) (s : State) : (aluCmp v s).ioDraws = s.ioDraws := rfl
@[simp] theorem aluCmp_ioTrace (v : Byte) (s : State) : (aluCmp v s).ioTrace = s.ioTrace := rfl

/-! ## incOperand -/

@[simp] theorem incOperand_sp (x : Operand8) (s : State) : (incOperand x s).sp = s.sp := by
  simp [incOperand]
@[simp] theorem incOperand_pc (x : Operand8) (s : State) : (incOperand x s).pc = s.pc := by
  simp [incOperand]
@[simp] theorem incOperand_flags (x : Operand8) (s : State) : (incOperand x s).flags = (inc8 (readR8 x s) s.flags.cy).flags := by
  simp [incOperand]
@[simp] theorem incOperand_halted (x : Operand8) (s : State) : (incOperand x s).halted = s.halted := by
  simp [incOperand]
@[simp] theorem incOperand_io (x : Operand8) (s : State) : (incOperand x s).io = s.io := by
  simp [incOperand]
@[simp] theorem incOperand_ioDraws (x : Operand8) (s : State) : (incOperand x s).ioDraws = s.ioDraws := by
  simp [incOperand]
@[simp] theorem incOperand_ioTrace (x : Operand8) (s : State) : (incOperand x s).ioTrace = s.ioTrace := by
  simp [incOperand]

/-! ## decOperand -/

@[simp] theorem decOperand_sp (x : Operand8) (s : State) : (decOperand x s).sp = s.sp := by
  simp [decOperand]
@[simp] theorem decOperand_pc (x : Operand8) (s : State) : (decOperand x s).pc = s.pc := by
  simp [decOperand]
@[simp] theorem decOperand_flags (x : Operand8) (s : State) : (decOperand x s).flags = (dec8 (readR8 x s) s.flags.cy).flags := by
  simp [decOperand]
@[simp] theorem decOperand_halted (x : Operand8) (s : State) : (decOperand x s).halted = s.halted := by
  simp [decOperand]
@[simp] theorem decOperand_io (x : Operand8) (s : State) : (decOperand x s).io = s.io := by
  simp [decOperand]
@[simp] theorem decOperand_ioDraws (x : Operand8) (s : State) : (decOperand x s).ioDraws = s.ioDraws := by
  simp [decOperand]
@[simp] theorem decOperand_ioTrace (x : Operand8) (s : State) : (decOperand x s).ioTrace = s.ioTrace := by
  simp [decOperand]

/-! ## incPair -/

@[simp] theorem incPair_a (p : RegPair) (s : State) : (incPair p s).a = s.a := by
  simp [incPair]
@[simp] theorem incPair_pc (p : RegPair) (s : State) : (incPair p s).pc = s.pc := by
  simp [incPair]
@[simp] theorem incPair_flags (p : RegPair) (s : State) : (incPair p s).flags = s.flags := by
  simp [incPair]
@[simp] theorem incPair_halted (p : RegPair) (s : State) : (incPair p s).halted = s.halted := by
  simp [incPair]
@[simp] theorem incPair_mem (p : RegPair) (s : State) : (incPair p s).mem = s.mem := by
  simp [incPair]
@[simp] theorem incPair_io (p : RegPair) (s : State) : (incPair p s).io = s.io := by
  simp [incPair]
@[simp] theorem incPair_ioDraws (p : RegPair) (s : State) : (incPair p s).ioDraws = s.ioDraws := by
  simp [incPair]
@[simp] theorem incPair_ioTrace (p : RegPair) (s : State) : (incPair p s).ioTrace = s.ioTrace := by
  simp [incPair]

/-! ## decPair -/

@[simp] theorem decPair_a (p : RegPair) (s : State) : (decPair p s).a = s.a := by
  simp [decPair]
@[simp] theorem decPair_pc (p : RegPair) (s : State) : (decPair p s).pc = s.pc := by
  simp [decPair]
@[simp] theorem decPair_flags (p : RegPair) (s : State) : (decPair p s).flags = s.flags := by
  simp [decPair]
@[simp] theorem decPair_halted (p : RegPair) (s : State) : (decPair p s).halted = s.halted := by
  simp [decPair]
@[simp] theorem decPair_mem (p : RegPair) (s : State) : (decPair p s).mem = s.mem := by
  simp [decPair]
@[simp] theorem decPair_io (p : RegPair) (s : State) : (decPair p s).io = s.io := by
  simp [decPair]
@[simp] theorem decPair_ioDraws (p : RegPair) (s : State) : (decPair p s).ioDraws = s.ioDraws := by
  simp [decPair]
@[simp] theorem decPair_ioTrace (p : RegPair) (s : State) : (decPair p s).ioTrace = s.ioTrace := by
  simp [decPair]

/-! ## addPairToHl -/

@[simp] theorem addPairToHl_a (p : RegPair) (s : State) : (addPairToHl p s).a = s.a := rfl
@[simp] theorem addPairToHl_b (p : RegPair) (s : State) : (addPairToHl p s).b = s.b := rfl
@[simp] theorem addPairToHl_c (p : RegPair) (s : State) : (addPairToHl p s).c = s.c := rfl
@[simp] theorem addPairToHl_d (p : RegPair) (s : State) : (addPairToHl p s).d = s.d := rfl
@[simp] theorem addPairToHl_e (p : RegPair) (s : State) : (addPairToHl p s).e = s.e := rfl
@[simp] theorem addPairToHl_sp (p : RegPair) (s : State) : (addPairToHl p s).sp = s.sp := rfl
@[simp] theorem addPairToHl_pc (p : RegPair) (s : State) : (addPairToHl p s).pc = s.pc := rfl
@[simp] theorem addPairToHl_flags (p : RegPair) (s : State) : (addPairToHl p s).flags = { s.flags with cy := decide ((hl s).toNat + (getRP p s).toNat > 0xFFFF) } := rfl
@[simp] theorem addPairToHl_halted (p : RegPair) (s : State) : (addPairToHl p s).halted = s.halted := rfl
@[simp] theorem addPairToHl_mem (p : RegPair) (s : State) : (addPairToHl p s).mem = s.mem := rfl
@[simp] theorem addPairToHl_io (p : RegPair) (s : State) : (addPairToHl p s).io = s.io := rfl
@[simp] theorem addPairToHl_ioDraws (p : RegPair) (s : State) : (addPairToHl p s).ioDraws = s.ioDraws := rfl
@[simp] theorem addPairToHl_ioTrace (p : RegPair) (s : State) : (addPairToHl p s).ioTrace = s.ioTrace := rfl

/-! ## rotateLeft -/

@[simp] theorem rotateLeft_b (x : Bool) (s : State) : (rotateLeft x s).b = s.b := rfl
@[simp] theorem rotateLeft_c (x : Bool) (s : State) : (rotateLeft x s).c = s.c := rfl
@[simp] theorem rotateLeft_d (x : Bool) (s : State) : (rotateLeft x s).d = s.d := rfl
@[simp] theorem rotateLeft_e (x : Bool) (s : State) : (rotateLeft x s).e = s.e := rfl
@[simp] theorem rotateLeft_h (x : Bool) (s : State) : (rotateLeft x s).h = s.h := rfl
@[simp] theorem rotateLeft_l (x : Bool) (s : State) : (rotateLeft x s).l = s.l := rfl
@[simp] theorem rotateLeft_sp (x : Bool) (s : State) : (rotateLeft x s).sp = s.sp := rfl
@[simp] theorem rotateLeft_pc (x : Bool) (s : State) : (rotateLeft x s).pc = s.pc := rfl
@[simp] theorem rotateLeft_flags (x : Bool) (s : State) : (rotateLeft x s).flags = { s.flags with cy := s.a.getLsbD 7 } := rfl
@[simp] theorem rotateLeft_halted (x : Bool) (s : State) : (rotateLeft x s).halted = s.halted := rfl
@[simp] theorem rotateLeft_mem (x : Bool) (s : State) : (rotateLeft x s).mem = s.mem := rfl
@[simp] theorem rotateLeft_io (x : Bool) (s : State) : (rotateLeft x s).io = s.io := rfl
@[simp] theorem rotateLeft_ioDraws (x : Bool) (s : State) : (rotateLeft x s).ioDraws = s.ioDraws := rfl
@[simp] theorem rotateLeft_ioTrace (x : Bool) (s : State) : (rotateLeft x s).ioTrace = s.ioTrace := rfl

/-! ## rotateRight -/

@[simp] theorem rotateRight_b (x : Bool) (s : State) : (rotateRight x s).b = s.b := rfl
@[simp] theorem rotateRight_c (x : Bool) (s : State) : (rotateRight x s).c = s.c := rfl
@[simp] theorem rotateRight_d (x : Bool) (s : State) : (rotateRight x s).d = s.d := rfl
@[simp] theorem rotateRight_e (x : Bool) (s : State) : (rotateRight x s).e = s.e := rfl
@[simp] theorem rotateRight_h (x : Bool) (s : State) : (rotateRight x s).h = s.h := rfl
@[simp] theorem rotateRight_l (x : Bool) (s : State) : (rotateRight x s).l = s.l := rfl
@[simp] theorem rotateRight_sp (x : Bool) (s : State) : (rotateRight x s).sp = s.sp := rfl
@[simp] theorem rotateRight_pc (x : Bool) (s : State) : (rotateRight x s).pc = s.pc := rfl
@[simp] theorem rotateRight_flags (x : Bool) (s : State) : (rotateRight x s).flags = { s.flags with cy := s.a.getLsbD 0 } := rfl
@[simp] theorem rotateRight_halted (x : Bool) (s : State) : (rotateRight x s).halted = s.halted := rfl
@[simp] theorem rotateRight_mem (x : Bool) (s : State) : (rotateRight x s).mem = s.mem := rfl
@[simp] theorem rotateRight_io (x : Bool) (s : State) : (rotateRight x s).io = s.io := rfl
@[simp] theorem rotateRight_ioDraws (x : Bool) (s : State) : (rotateRight x s).ioDraws = s.ioDraws := rfl
@[simp] theorem rotateRight_ioTrace (x : Bool) (s : State) : (rotateRight x s).ioTrace = s.ioTrace := rfl

/-! ## decimalAdjust -/

@[simp] theorem decimalAdjust_a (s : State) : (decimalAdjust s).a = (daa8 s.a s.flags).res := rfl
@[simp] theorem decimalAdjust_b (s : State) : (decimalAdjust s).b = s.b := rfl
@[simp] theorem decimalAdjust_c (s : State) : (decimalAdjust s).c = s.c := rfl
@[simp] theorem decimalAdjust_d (s : State) : (decimalAdjust s).d = s.d := rfl
@[simp] theorem decimalAdjust_e (s : State) : (decimalAdjust s).e = s.e := rfl
@[simp] theorem decimalAdjust_h (s : State) : (decimalAdjust s).h = s.h := rfl
@[simp] theorem decimalAdjust_l (s : State) : (decimalAdjust s).l = s.l := rfl
@[simp] theorem decimalAdjust_sp (s : State) : (decimalAdjust s).sp = s.sp := rfl
@[simp] theorem decimalAdjust_pc (s : State) : (decimalAdjust s).pc = s.pc := rfl
@[simp] theorem decimalAdjust_flags (s : State) : (decimalAdjust s).flags = (daa8 s.a s.flags).flags := rfl
@[simp] theorem decimalAdjust_halted (s : State) : (decimalAdjust s).halted = s.halted := rfl
@[simp] theorem decimalAdjust_mem (s : State) : (decimalAdjust s).mem = s.mem := rfl
@[simp] theorem decimalAdjust_io (s : State) : (decimalAdjust s).io = s.io := rfl
@[simp] theorem decimalAdjust_ioDraws (s : State) : (decimalAdjust s).ioDraws = s.ioDraws := rfl
@[simp] theorem decimalAdjust_ioTrace (s : State) : (decimalAdjust s).ioTrace = s.ioTrace := rfl

/-! ## jumpIf -/

@[simp] theorem jumpIf_a (ccc : Cond) (w : Word) (s : State) : (jumpIf ccc w s).a = s.a := by
  unfold jumpIf; split <;> rfl
@[simp] theorem jumpIf_b (ccc : Cond) (w : Word) (s : State) : (jumpIf ccc w s).b = s.b := by
  unfold jumpIf; split <;> rfl
@[simp] theorem jumpIf_c (ccc : Cond) (w : Word) (s : State) : (jumpIf ccc w s).c = s.c := by
  unfold jumpIf; split <;> rfl
@[simp] theorem jumpIf_d (ccc : Cond) (w : Word) (s : State) : (jumpIf ccc w s).d = s.d := by
  unfold jumpIf; split <;> rfl
@[simp] theorem jumpIf_e (ccc : Cond) (w : Word) (s : State) : (jumpIf ccc w s).e = s.e := by
  unfold jumpIf; split <;> rfl
@[simp] theorem jumpIf_h (ccc : Cond) (w : Word) (s : State) : (jumpIf ccc w s).h = s.h := by
  unfold jumpIf; split <;> rfl
@[simp] theorem jumpIf_l (ccc : Cond) (w : Word) (s : State) : (jumpIf ccc w s).l = s.l := by
  unfold jumpIf; split <;> rfl
@[simp] theorem jumpIf_sp (ccc : Cond) (w : Word) (s : State) : (jumpIf ccc w s).sp = s.sp := by
  unfold jumpIf; split <;> rfl
@[simp] theorem jumpIf_pc (ccc : Cond) (w : Word) (s : State) : (jumpIf ccc w s).pc = if condHolds ccc s.flags then w else s.pc := by
  unfold jumpIf; split <;> rfl
@[simp] theorem jumpIf_flags (ccc : Cond) (w : Word) (s : State) : (jumpIf ccc w s).flags = s.flags := by
  unfold jumpIf; split <;> rfl
@[simp] theorem jumpIf_halted (ccc : Cond) (w : Word) (s : State) : (jumpIf ccc w s).halted = s.halted := by
  unfold jumpIf; split <;> rfl
@[simp] theorem jumpIf_mem (ccc : Cond) (w : Word) (s : State) : (jumpIf ccc w s).mem = s.mem := by
  unfold jumpIf; split <;> rfl
@[simp] theorem jumpIf_io (ccc : Cond) (w : Word) (s : State) : (jumpIf ccc w s).io = s.io := by
  unfold jumpIf; split <;> rfl
@[simp] theorem jumpIf_ioDraws (ccc : Cond) (w : Word) (s : State) : (jumpIf ccc w s).ioDraws = s.ioDraws := by
  unfold jumpIf; split <;> rfl
@[simp] theorem jumpIf_ioTrace (ccc : Cond) (w : Word) (s : State) : (jumpIf ccc w s).ioTrace = s.ioTrace := by
  unfold jumpIf; split <;> rfl

/-! ## callTo -/

@[simp] theorem callTo_a (w : Word) (s : State) : (callTo w s).a = s.a := rfl
@[simp] theorem callTo_b (w : Word) (s : State) : (callTo w s).b = s.b := rfl
@[simp] theorem callTo_c (w : Word) (s : State) : (callTo w s).c = s.c := rfl
@[simp] theorem callTo_d (w : Word) (s : State) : (callTo w s).d = s.d := rfl
@[simp] theorem callTo_e (w : Word) (s : State) : (callTo w s).e = s.e := rfl
@[simp] theorem callTo_h (w : Word) (s : State) : (callTo w s).h = s.h := rfl
@[simp] theorem callTo_l (w : Word) (s : State) : (callTo w s).l = s.l := rfl
@[simp] theorem callTo_sp (w : Word) (s : State) : (callTo w s).sp = s.sp - 2 := rfl
@[simp] theorem callTo_pc (w : Word) (s : State) : (callTo w s).pc = w := rfl
@[simp] theorem callTo_flags (w : Word) (s : State) : (callTo w s).flags = s.flags := rfl
@[simp] theorem callTo_halted (w : Word) (s : State) : (callTo w s).halted = s.halted := rfl
@[simp] theorem callTo_mem (w : Word) (s : State) : (callTo w s).mem = (push16 s.pc s).mem := rfl
@[simp] theorem callTo_io (w : Word) (s : State) : (callTo w s).io = s.io := rfl
@[simp] theorem callTo_ioDraws (w : Word) (s : State) : (callTo w s).ioDraws = s.ioDraws := rfl
@[simp] theorem callTo_ioTrace (w : Word) (s : State) : (callTo w s).ioTrace = s.ioTrace := rfl

/-! ## callIf -/

@[simp] theorem callIf_a (ccc : Cond) (w : Word) (s : State) : (callIf ccc w s).a = s.a := by
  unfold callIf; split <;> rfl
@[simp] theorem callIf_b (ccc : Cond) (w : Word) (s : State) : (callIf ccc w s).b = s.b := by
  unfold callIf; split <;> rfl
@[simp] theorem callIf_c (ccc : Cond) (w : Word) (s : State) : (callIf ccc w s).c = s.c := by
  unfold callIf; split <;> rfl
@[simp] theorem callIf_d (ccc : Cond) (w : Word) (s : State) : (callIf ccc w s).d = s.d := by
  unfold callIf; split <;> rfl
@[simp] theorem callIf_e (ccc : Cond) (w : Word) (s : State) : (callIf ccc w s).e = s.e := by
  unfold callIf; split <;> rfl
@[simp] theorem callIf_h (ccc : Cond) (w : Word) (s : State) : (callIf ccc w s).h = s.h := by
  unfold callIf; split <;> rfl
@[simp] theorem callIf_l (ccc : Cond) (w : Word) (s : State) : (callIf ccc w s).l = s.l := by
  unfold callIf; split <;> rfl
@[simp] theorem callIf_sp (ccc : Cond) (w : Word) (s : State) : (callIf ccc w s).sp = if condHolds ccc s.flags then s.sp - 2 else s.sp := by
  unfold callIf; split <;> rfl
@[simp] theorem callIf_pc (ccc : Cond) (w : Word) (s : State) : (callIf ccc w s).pc = if condHolds ccc s.flags then w else s.pc := by
  unfold callIf; split <;> rfl
@[simp] theorem callIf_flags (ccc : Cond) (w : Word) (s : State) : (callIf ccc w s).flags = s.flags := by
  unfold callIf; split <;> rfl
@[simp] theorem callIf_halted (ccc : Cond) (w : Word) (s : State) : (callIf ccc w s).halted = s.halted := by
  unfold callIf; split <;> rfl
@[simp] theorem callIf_mem (ccc : Cond) (w : Word) (s : State) : (callIf ccc w s).mem = if condHolds ccc s.flags then (push16 s.pc s).mem else s.mem := by
  unfold callIf; split <;> rfl
@[simp] theorem callIf_io (ccc : Cond) (w : Word) (s : State) : (callIf ccc w s).io = s.io := by
  unfold callIf; split <;> rfl
@[simp] theorem callIf_ioDraws (ccc : Cond) (w : Word) (s : State) : (callIf ccc w s).ioDraws = s.ioDraws := by
  unfold callIf; split <;> rfl
@[simp] theorem callIf_ioTrace (ccc : Cond) (w : Word) (s : State) : (callIf ccc w s).ioTrace = s.ioTrace := by
  unfold callIf; split <;> rfl

/-! ## returnFrom -/

@[simp] theorem returnFrom_a (s : State) : (returnFrom s).a = s.a := rfl
@[simp] theorem returnFrom_b (s : State) : (returnFrom s).b = s.b := rfl
@[simp] theorem returnFrom_c (s : State) : (returnFrom s).c = s.c := rfl
@[simp] theorem returnFrom_d (s : State) : (returnFrom s).d = s.d := rfl
@[simp] theorem returnFrom_e (s : State) : (returnFrom s).e = s.e := rfl
@[simp] theorem returnFrom_h (s : State) : (returnFrom s).h = s.h := rfl
@[simp] theorem returnFrom_l (s : State) : (returnFrom s).l = s.l := rfl
@[simp] theorem returnFrom_sp (s : State) : (returnFrom s).sp = s.sp + 2 := rfl
@[simp] theorem returnFrom_pc (s : State) : (returnFrom s).pc = popValue s := rfl
@[simp] theorem returnFrom_flags (s : State) : (returnFrom s).flags = s.flags := rfl
@[simp] theorem returnFrom_halted (s : State) : (returnFrom s).halted = s.halted := rfl
@[simp] theorem returnFrom_mem (s : State) : (returnFrom s).mem = s.mem := rfl
@[simp] theorem returnFrom_io (s : State) : (returnFrom s).io = s.io := rfl
@[simp] theorem returnFrom_ioDraws (s : State) : (returnFrom s).ioDraws = s.ioDraws := rfl
@[simp] theorem returnFrom_ioTrace (s : State) : (returnFrom s).ioTrace = s.ioTrace := rfl

/-! ## returnIf -/

@[simp] theorem returnIf_a (ccc : Cond) (s : State) : (returnIf ccc s).a = s.a := by
  unfold returnIf; split <;> rfl
@[simp] theorem returnIf_b (ccc : Cond) (s : State) : (returnIf ccc s).b = s.b := by
  unfold returnIf; split <;> rfl
@[simp] theorem returnIf_c (ccc : Cond) (s : State) : (returnIf ccc s).c = s.c := by
  unfold returnIf; split <;> rfl
@[simp] theorem returnIf_d (ccc : Cond) (s : State) : (returnIf ccc s).d = s.d := by
  unfold returnIf; split <;> rfl
@[simp] theorem returnIf_e (ccc : Cond) (s : State) : (returnIf ccc s).e = s.e := by
  unfold returnIf; split <;> rfl
@[simp] theorem returnIf_h (ccc : Cond) (s : State) : (returnIf ccc s).h = s.h := by
  unfold returnIf; split <;> rfl
@[simp] theorem returnIf_l (ccc : Cond) (s : State) : (returnIf ccc s).l = s.l := by
  unfold returnIf; split <;> rfl
@[simp] theorem returnIf_sp (ccc : Cond) (s : State) : (returnIf ccc s).sp = if condHolds ccc s.flags then s.sp + 2 else s.sp := by
  unfold returnIf; split <;> rfl
@[simp] theorem returnIf_pc (ccc : Cond) (s : State) : (returnIf ccc s).pc = if condHolds ccc s.flags then popValue s else s.pc := by
  unfold returnIf; split <;> rfl
@[simp] theorem returnIf_flags (ccc : Cond) (s : State) : (returnIf ccc s).flags = s.flags := by
  unfold returnIf; split <;> rfl
@[simp] theorem returnIf_halted (ccc : Cond) (s : State) : (returnIf ccc s).halted = s.halted := by
  unfold returnIf; split <;> rfl
@[simp] theorem returnIf_mem (ccc : Cond) (s : State) : (returnIf ccc s).mem = s.mem := by
  unfold returnIf; split <;> rfl
@[simp] theorem returnIf_io (ccc : Cond) (s : State) : (returnIf ccc s).io = s.io := by
  unfold returnIf; split <;> rfl
@[simp] theorem returnIf_ioDraws (ccc : Cond) (s : State) : (returnIf ccc s).ioDraws = s.ioDraws := by
  unfold returnIf; split <;> rfl
@[simp] theorem returnIf_ioTrace (ccc : Cond) (s : State) : (returnIf ccc s).ioTrace = s.ioTrace := by
  unfold returnIf; split <;> rfl

/-! ## restart -/

@[simp] theorem restart_a (n : Nat) (s : State) : (restart n s).a = s.a := rfl
@[simp] theorem restart_b (n : Nat) (s : State) : (restart n s).b = s.b := rfl
@[simp] theorem restart_c (n : Nat) (s : State) : (restart n s).c = s.c := rfl
@[simp] theorem restart_d (n : Nat) (s : State) : (restart n s).d = s.d := rfl
@[simp] theorem restart_e (n : Nat) (s : State) : (restart n s).e = s.e := rfl
@[simp] theorem restart_h (n : Nat) (s : State) : (restart n s).h = s.h := rfl
@[simp] theorem restart_l (n : Nat) (s : State) : (restart n s).l = s.l := rfl
@[simp] theorem restart_sp (n : Nat) (s : State) : (restart n s).sp = s.sp - 2 := rfl
@[simp] theorem restart_pc (n : Nat) (s : State) : (restart n s).pc = BitVec.ofNat 16 (8 * n) := rfl
@[simp] theorem restart_flags (n : Nat) (s : State) : (restart n s).flags = s.flags := rfl
@[simp] theorem restart_halted (n : Nat) (s : State) : (restart n s).halted = s.halted := rfl
@[simp] theorem restart_mem (n : Nat) (s : State) : (restart n s).mem = (push16 s.pc s).mem := rfl
@[simp] theorem restart_io (n : Nat) (s : State) : (restart n s).io = s.io := rfl
@[simp] theorem restart_ioDraws (n : Nat) (s : State) : (restart n s).ioDraws = s.ioDraws := rfl
@[simp] theorem restart_ioTrace (n : Nat) (s : State) : (restart n s).ioTrace = s.ioTrace := rfl

/-! ## pushPair -/

@[simp] theorem pushPair_a (p : StackPair) (s : State) : (pushPair p s).a = s.a := rfl
@[simp] theorem pushPair_b (p : StackPair) (s : State) : (pushPair p s).b = s.b := rfl
@[simp] theorem pushPair_c (p : StackPair) (s : State) : (pushPair p s).c = s.c := rfl
@[simp] theorem pushPair_d (p : StackPair) (s : State) : (pushPair p s).d = s.d := rfl
@[simp] theorem pushPair_e (p : StackPair) (s : State) : (pushPair p s).e = s.e := rfl
@[simp] theorem pushPair_h (p : StackPair) (s : State) : (pushPair p s).h = s.h := rfl
@[simp] theorem pushPair_l (p : StackPair) (s : State) : (pushPair p s).l = s.l := rfl
@[simp] theorem pushPair_sp (p : StackPair) (s : State) : (pushPair p s).sp = s.sp - 2 := rfl
@[simp] theorem pushPair_pc (p : StackPair) (s : State) : (pushPair p s).pc = s.pc := rfl
@[simp] theorem pushPair_flags (p : StackPair) (s : State) : (pushPair p s).flags = s.flags := rfl
@[simp] theorem pushPair_halted (p : StackPair) (s : State) : (pushPair p s).halted = s.halted := rfl
@[simp] theorem pushPair_mem (p : StackPair) (s : State) : (pushPair p s).mem = (push16 (getStackPair p s) s).mem := rfl
@[simp] theorem pushPair_io (p : StackPair) (s : State) : (pushPair p s).io = s.io := rfl
@[simp] theorem pushPair_ioDraws (p : StackPair) (s : State) : (pushPair p s).ioDraws = s.ioDraws := rfl
@[simp] theorem pushPair_ioTrace (p : StackPair) (s : State) : (pushPair p s).ioTrace = s.ioTrace := rfl

/-! ## popPair -/

@[simp] theorem popPair_sp (p : StackPair) (s : State) : (popPair p s).sp = s.sp + 2 := by
  simp [popPair]
@[simp] theorem popPair_pc (p : StackPair) (s : State) : (popPair p s).pc = s.pc := by
  simp [popPair]
@[simp] theorem popPair_halted (p : StackPair) (s : State) : (popPair p s).halted = s.halted := by
  simp [popPair]
@[simp] theorem popPair_mem (p : StackPair) (s : State) : (popPair p s).mem = s.mem := by
  simp [popPair]
@[simp] theorem popPair_io (p : StackPair) (s : State) : (popPair p s).io = s.io := by
  simp [popPair]
@[simp] theorem popPair_ioDraws (p : StackPair) (s : State) : (popPair p s).ioDraws = s.ioDraws := by
  simp [popPair]
@[simp] theorem popPair_ioTrace (p : StackPair) (s : State) : (popPair p s).ioTrace = s.ioTrace := by
  simp [popPair]

/-! ## exchangeTop -/

@[simp] theorem exchangeTop_a (s : State) : (exchangeTop s).a = s.a := rfl
@[simp] theorem exchangeTop_b (s : State) : (exchangeTop s).b = s.b := rfl
@[simp] theorem exchangeTop_c (s : State) : (exchangeTop s).c = s.c := rfl
@[simp] theorem exchangeTop_d (s : State) : (exchangeTop s).d = s.d := rfl
@[simp] theorem exchangeTop_e (s : State) : (exchangeTop s).e = s.e := rfl
@[simp] theorem exchangeTop_h (s : State) : (exchangeTop s).h = memRead (s.sp + 1) s := by
  simp [exchangeTop, read16]
@[simp] theorem exchangeTop_l (s : State) : (exchangeTop s).l = memRead s.sp s := by
  simp [exchangeTop, read16]
@[simp] theorem exchangeTop_sp (s : State) : (exchangeTop s).sp = s.sp := rfl
@[simp] theorem exchangeTop_pc (s : State) : (exchangeTop s).pc = s.pc := rfl
@[simp] theorem exchangeTop_flags (s : State) : (exchangeTop s).flags = s.flags := rfl
@[simp] theorem exchangeTop_halted (s : State) : (exchangeTop s).halted = s.halted := rfl
@[simp] theorem exchangeTop_mem (s : State) : (exchangeTop s).mem = (write16 s.sp (hl s) s).mem := rfl
@[simp] theorem exchangeTop_io (s : State) : (exchangeTop s).io = s.io := rfl
@[simp] theorem exchangeTop_ioDraws (s : State) : (exchangeTop s).ioDraws = s.ioDraws := rfl
@[simp] theorem exchangeTop_ioTrace (s : State) : (exchangeTop s).ioTrace = s.ioTrace := rfl

/-! ## Forms -/

@[simp] theorem readR8_reg (r : Reg) (s : State) : readR8 (.reg r) s = regRead r s := rfl
@[simp] theorem readR8_m (s : State) : readR8 .m s = memRead (hl s) s := rfl
@[simp] theorem writeR8_reg (r : Reg) (v : Byte) (s : State) : writeR8 (.reg r) v s = regWrite r v s := rfl
@[simp] theorem writeR8_m (v : Byte) (s : State) : writeR8 .m v s = memWrite (hl s) v s := rfl
@[simp] theorem incOperand_reg_mem (r : Reg) (s : State) : (incOperand (.reg r) s).mem = s.mem := regWrite_mem _ _ _
@[simp] theorem decOperand_reg_mem (r : Reg) (s : State) : (decOperand (.reg r) s).mem = s.mem := regWrite_mem _ _ _
@[simp] theorem incOperand_m_mem (s : State) :
    (incOperand .m s).mem = s.mem.writeAt (hl s).toNat (inc8 (memRead (hl s) s) s.flags.cy).res := rfl
@[simp] theorem decOperand_m_mem (s : State) :
    (decOperand .m s).mem = s.mem.writeAt (hl s).toNat (dec8 (memRead (hl s) s) s.flags.cy).res := rfl

theorem popPair_flags {p : StackPair} (h : p ≠ .psw) (s : State) : (popPair p s).flags = s.flags := by
  cases p <;> first | rfl | exact absurd rfl h

/-- A read depends on memory alone. -/
theorem memRead_congr {s t : State} (h : t.mem = s.mem) (y : Word) : memRead y t = memRead y s := by
  rw [memRead, memRead, h]

end Sys2Proof.Machine
end

