-- ==== Sys2Proof/Laws/Memory.lean ====
section
/-! SUPPORT. The memory laws: a read after a write, and that a write keeps the one form (20_memory.md R60, R63). -/

namespace Sys2Proof.Machine

/-! ## Lists of cells -/

/-- Every address a memory lists is above `k`. -/
def Memory.above (k : Nat) (m : Memory) : Prop := ∀ c ∈ m, k < c.1

theorem Memory.wf_nil : Memory.wf [] := by simp [Memory.wf]

theorem Memory.wf_cons {k : Nat} {v : Byte} {m : Memory} :
    Memory.wf ((k, v) :: m) ↔ (k < 2 ^ 16 ∧ v ≠ Config.memoryReset) ∧ Memory.above k m ∧ Memory.wf m := by
  simp only [Memory.wf, Memory.above, List.pairwise_cons, List.forall_mem_cons]
  tauto

theorem Memory.readAt_of_above {k : Nat} {m : Memory} (h : Memory.above k m) {a : Nat} (ha : a ≤ k) :
    Memory.readAt m a = Config.memoryReset := by
  cases m with
  | nil => rfl
  | cons c m =>
    obtain ⟨j, w⟩ := c
    have hj : k < j := h _ List.mem_cons_self
    simp [Memory.readAt, show a ≠ j by omega, show a < j by omega]

theorem Memory.above_consCell {k a : Nat} {v : Byte} {m : Memory} (hm : Memory.above k m) (ha : k < a) :
    Memory.above k (Memory.consCell a v m) := by
  unfold Memory.consCell
  split
  · exact hm
  · intro c hc
    rcases List.mem_cons.1 hc with rfl | hc
    · exact ha
    · exact hm _ hc

theorem Memory.wf_consCell {a : Nat} {v : Byte} {m : Memory} (hm : Memory.wf m) (h : Memory.above a m) (ha : a < 2 ^ 16) :
    Memory.wf (Memory.consCell a v m) := by
  unfold Memory.consCell
  split
  · exact hm
  · exact Memory.wf_cons.2 ⟨⟨ha, ‹_›⟩, h, hm⟩

theorem Memory.readAt_consCell_same {a : Nat} {v : Byte} {m : Memory} (h : Memory.above a m) :
    Memory.readAt (Memory.consCell a v m) a = v := by
  unfold Memory.consCell
  split
  · rw [Memory.readAt_of_above h le_rfl]; exact Eq.symm ‹_›
  · simp [Memory.readAt]

theorem Memory.readAt_consCell_other {a b : Nat} {v : Byte} {m : Memory} (h : Memory.above a m) (hb : b ≠ a) :
    Memory.readAt (Memory.consCell a v m) b = Memory.readAt m b := by
  unfold Memory.consCell
  split
  · rfl
  · by_cases hlt : b < a
    · simp [Memory.readAt, hb, hlt, Memory.readAt_of_above h hlt.le]
    · simp [Memory.readAt, hb, hlt]

theorem Memory.above_writeAt {k a : Nat} {v : Byte} {m : Memory} (hm : Memory.above k m) (ha : k < a) :
    Memory.above k (Memory.writeAt m a v) := by
  induction m with
  | nil => exact Memory.above_consCell hm ha
  | cons c m ih =>
    obtain ⟨j, w⟩ := c
    have htl : Memory.above k m := fun c hc => hm c (List.mem_cons_of_mem _ hc)
    simp only [Memory.writeAt]
    split
    · exact Memory.above_consCell hm ha
    · split
      · exact Memory.above_consCell htl ha
      · intro c hc
        rcases List.mem_cons.1 hc with rfl | hc
        · exact hm _ List.mem_cons_self
        · exact ih htl c hc

/-! ## The laws -/

/-- A write keeps the one form. -/
theorem Memory.wf_writeAt {m : Memory} (hm : m.wf) {a : Nat} (ha : a < 2 ^ 16) (v : Byte) : (m.writeAt a v).wf := by
  induction m with
  | nil => exact Memory.wf_consCell hm (fun c hc => by cases hc) ha
  | cons c m ih =>
    obtain ⟨k, w⟩ := c
    have ⟨hc, hab, htl⟩ := Memory.wf_cons.1 hm
    simp only [Memory.writeAt]
    split
    · refine Memory.wf_consCell hm (fun c hc => ?_) ha
      rcases List.mem_cons.1 hc with rfl | hc
      · assumption
      · exact lt_trans ‹_› (hab _ hc)
    · split
      · subst ‹a = k›; exact Memory.wf_consCell htl hab ha
      · exact Memory.wf_cons.2 ⟨hc, Memory.above_writeAt hab (by omega), ih htl⟩

/-- The byte written is the byte read. -/
theorem Memory.readAt_writeAt_same {m : Memory} (hm : m.wf) (a : Nat) (v : Byte) : (m.writeAt a v).readAt a = v := by
  induction m with
  | nil => exact Memory.readAt_consCell_same (fun c hc => by cases hc)
  | cons c m ih =>
    obtain ⟨k, w⟩ := c
    have ⟨_, hab, htl⟩ := Memory.wf_cons.1 hm
    simp only [Memory.writeAt]
    split
    · refine Memory.readAt_consCell_same (fun c hc => ?_)
      rcases List.mem_cons.1 hc with rfl | hc
      · assumption
      · exact lt_trans ‹_› (hab _ hc)
    · split
      · subst ‹a = k›; exact Memory.readAt_consCell_same hab
      · simp only [Memory.readAt, if_neg ‹¬a = k›, if_neg ‹¬a < k›]; exact ih htl

/-- Every other byte reads as before. -/
theorem Memory.readAt_writeAt_other {m : Memory} (hm : m.wf) {a b : Nat} (hb : b ≠ a) (v : Byte) :
    (m.writeAt a v).readAt b = m.readAt b := by
  induction m with
  | nil => exact Memory.readAt_consCell_other (fun c hc => by cases hc) hb
  | cons c m ih =>
    obtain ⟨k, w⟩ := c
    have ⟨_, hab, htl⟩ := Memory.wf_cons.1 hm
    simp only [Memory.writeAt]
    split
    · refine Memory.readAt_consCell_other (fun c hc => ?_) hb
      rcases List.mem_cons.1 hc with rfl | hc
      · assumption
      · exact lt_trans ‹_› (hab _ hc)
    · split
      · subst ‹a = k›
        rw [Memory.readAt_consCell_other hab hb]
        by_cases hlt : b < a
        · simp [Memory.readAt, hb, hlt, Memory.readAt_of_above hab hlt.le]
        · simp [Memory.readAt, hb, hlt]
      · simp only [Memory.readAt, ih htl]

/-- Memories in the one form that read the same are the same list. -/
theorem Memory.eq_of_readAt_eq {m m' : Memory} (hm : m.wf) (hm' : m'.wf) (h : ∀ a, m.readAt a = m'.readAt a) : m = m' := by
  induction m generalizing m' with
  | nil =>
    cases m' with
    | nil => rfl
    | cons c m' =>
      have := h c.1
      simp only [Memory.readAt, if_true] at this
      exact absurd this.symm (Memory.wf_cons.1 hm').1.2
  | cons c m ih =>
    obtain ⟨k, v⟩ := c
    have ⟨⟨_, hv⟩, hab, htl⟩ := Memory.wf_cons.1 hm
    cases m' with
    | nil =>
      have := h k
      simp only [Memory.readAt, if_true] at this
      exact absurd this hv
    | cons c' m' =>
      obtain ⟨k', v'⟩ := c'
      have ⟨⟨_, hv'⟩, hab', htl'⟩ := Memory.wf_cons.1 hm'
      have hk : k = k' := by
        rcases lt_trichotomy k k' with hlt | rfl | hlt
        · have := h k; simp [Memory.readAt, hlt.ne, hlt] at this; exact absurd this hv
        · rfl
        · have := h k'; simp [Memory.readAt, hlt.ne, hlt] at this; exact absurd this.symm hv'
      subst hk
      have hvv : v = v' := by simpa [Memory.readAt] using h k
      subst hvv
      rw [ih htl htl' fun a => ?_]
      rcases lt_or_ge k a with hlt | hge
      · simpa [Memory.readAt, hlt.ne', not_lt.2 hlt.le] using h a
      · rw [Memory.readAt_of_above hab hge, Memory.readAt_of_above hab' hge]

/-- The memory of a new core is in its form. -/
theorem Memory.wf_reset : State.reset.mem.wf := Memory.wf_nil

end Sys2Proof.Machine
end

