-- ==== Sys2Proof/Laws/Ops.lean ====
section
/-! SUPPORT. What each operation of Machine/Ops.lean does, said once: memory, the stack, the I/O ports, the fetch. -/

namespace Sys2Proof.Machine

theorem toNat_ne {a b : Word} (h : b ≠ a) : b.toNat ≠ a.toNat := fun e => h (BitVec.eq_of_toNat_eq e)

theorem add_one_ne (a : Word) : a + 1 ≠ a := by bv_omega
theorem ne_add_one (a : Word) : a ≠ a + 1 := by bv_omega

/-! ## Memory -/

theorem memRead_memWrite_same (a : Word) (v : Byte) {s : State} (h : s.mem.wf) : memRead a (memWrite a v s) = v :=
  Memory.readAt_writeAt_same h _ _

theorem memRead_memWrite_other {a b : Word} (hb : b ≠ a) (v : Byte) {s : State} (h : s.mem.wf) :
    memRead b (memWrite a v s) = memRead b s :=
  Memory.readAt_writeAt_other h (toNat_ne hb) _

theorem wf_memWrite (a : Word) (v : Byte) {s : State} (h : s.mem.wf) : (memWrite a v s).mem.wf :=
  Memory.wf_writeAt h a.isLt v

theorem wf_write16 (a v : Word) {s : State} (h : s.mem.wf) : (write16 a v s).mem.wf :=
  wf_memWrite _ _ (wf_memWrite _ _ h)

/-- `Write16` stores the low byte at `a`. -/
theorem memRead_write16_low (a v : Word) {s : State} (h : s.mem.wf) : memRead a (write16 a v s) = loByte v := by
  rw [write16, memRead_memWrite_other (ne_add_one a) _ (wf_memWrite _ _ h), memRead_memWrite_same _ _ h]

/-- `Write16` stores the high byte at `a + 1`. -/
theorem memRead_write16_high (a v : Word) {s : State} (h : s.mem.wf) : memRead (a + 1) (write16 a v s) = hiByte v :=
  memRead_memWrite_same _ _ (wf_memWrite _ _ h)

/-- `Write16` stores nowhere else. -/
theorem memRead_write16_other {a b : Word} (v : Word) (h1 : b ≠ a) (h2 : b ≠ a + 1) {s : State} (h : s.mem.wf) :
    memRead b (write16 a v s) = memRead b s := by
  rw [write16, memRead_memWrite_other h2 _ (wf_memWrite _ _ h), memRead_memWrite_other h1 _ h]

/-- `Read16` after `Write16`. -/
theorem read16_write16 (a v : Word) {s : State} (h : s.mem.wf) : read16 a (write16 a v s) = v := by
  rw [read16, memRead_write16_low a v h, memRead_write16_high a v h, cat_hiByte_loByte]

theorem wf_storeBytes (vs : List Byte) (a : Word) {s : State} (h : s.mem.wf) : (storeBytes a vs s).mem.wf := by
  induction vs generalizing a s with
  | nil => exact h
  | cons v vs ih => exact ih _ (wf_memWrite _ _ h)

/-- Bytes stored change memory alone. -/
theorem storeBytes_eq (vs : List Byte) (a : Word) (s : State) :
    storeBytes a vs s = { s with mem := (storeBytes a vs s).mem } := by
  induction vs generalizing a s with
  | nil => rfl
  | cons v vs ih => rw [storeBytes, ih]; rfl

/-- A byte none of the stored ones falls on reads as before. -/
theorem memRead_storeBytes_other (vs : List Byte) {a b : Word} {s : State} (h : s.mem.wf)
    (hb : ∀ k < vs.length, b ≠ a + BitVec.ofNat 16 k) : memRead b (storeBytes a vs s) = memRead b s := by
  induction vs generalizing a s with
  | nil => rfl
  | cons v vs ih =>
    rw [storeBytes, ih (wf_memWrite _ _ h), memRead_memWrite_other _ _ h]
    · simpa using hb 0 (by simp)
    · intro k hk
      have := hb (k + 1) (by simpa using hk)
      rwa [BitVec.add_assoc, show (1 : Word) + BitVec.ofNat 16 k = BitVec.ofNat 16 (k + 1) by bv_omega]

/-- Up to 65,536 bytes stored do not overlap: each is read back. -/
theorem memRead_storeBytes_at (vs : List Byte) {a : Word} {s : State} (h : s.mem.wf) (hlen : vs.length ≤ 65536) {k : Nat}
    {v : Byte} (hk : vs[k]? = some v) : memRead (a + BitVec.ofNat 16 k) (storeBytes a vs s) = v := by
  induction vs generalizing a s k with
  | nil => simp at hk
  | cons w vs ih =>
    rw [storeBytes]
    cases k with
    | zero =>
      obtain rfl : w = v := by simpa using hk
      rw [memRead_storeBytes_other vs (wf_memWrite _ _ h)]
      · simpa using memRead_memWrite_same a w h
      · intro j hj
        simp only [List.length_cons] at hlen
        bv_omega
    | succ k =>
      have := ih (a := a + 1) (k := k) (wf_memWrite a w h) (by simp at hlen; omega) (by simpa using hk)
      rwa [BitVec.add_assoc, show (1 : Word) + BitVec.ofNat 16 k = BitVec.ofNat 16 (k + 1) by bv_omega] at this

/-! ## The stack -/

theorem wf_push16 (v : Word) {s : State} (h : s.mem.wf) : (push16 v s).mem.wf :=
  wf_memWrite (s.sp - 2) (loByte v) (wf_memWrite (s.sp - 1) (hiByte v) h)

/-- A push changes memory and SP alone. -/
theorem push16_eq (v : Word) (s : State) : push16 v s = { s with mem := (push16 v s).mem, sp := s.sp - 2 } := rfl

theorem memRead_push16_low (v : Word) {s : State} (h : s.mem.wf) : memRead (s.sp - 2) (push16 v s) = loByte v :=
  memRead_memWrite_same (s.sp - 2) (loByte v) (wf_memWrite (s.sp - 1) (hiByte v) h)

theorem memRead_push16_high (v : Word) {s : State} (h : s.mem.wf) : memRead (s.sp - 1) (push16 v s) = hiByte v := by
  have hne : s.sp - 1 ≠ s.sp - 2 := by bv_omega
  exact (memRead_memWrite_other hne (loByte v) (wf_memWrite (s.sp - 1) (hiByte v) h)).trans (memRead_memWrite_same _ _ h)

theorem memRead_push16_other {b : Word} (v : Word) {s : State} (h : s.mem.wf) (h1 : b ≠ s.sp - 1) (h2 : b ≠ s.sp - 2) :
    memRead b (push16 v s) = memRead b s :=
  (memRead_memWrite_other h2 (loByte v) (wf_memWrite (s.sp - 1) (hiByte v) h)).trans (memRead_memWrite_other h1 _ h)

/-- What was pushed is what is on top of the stack. -/
theorem popValue_push16 (v : Word) {s : State} (h : s.mem.wf) : popValue (push16 v s) = v := by
  rw [popValue, read16, push16_sp, show s.sp - 2 + 1 = s.sp - 1 by bv_omega, memRead_push16_low v h,
    memRead_push16_high v h, cat_hiByte_loByte]

/-! ## The I/O ports -/

/-- With no device attached IN reads `IO_DEFAULT_IN`. -/
theorem ioValue_defaultStubs (p : Byte) {s : State} (h : s.io = .defaultStubs) : ioValue p s = 0x00 := by
  simp [ioValue, h, Config.ioDefaultIn]

theorem ioAfterIn_defaultStubs (p : Byte) {s : State} (h : s.io = .defaultStubs) :
    ioAfterIn p s = { s with ioTrace := s.ioTrace ++ [.input p 0x00] } := by
  simp [ioAfterIn, ioValue_defaultStubs p h, h]

theorem ioAfterIn_device (p : Byte) {s : State} {id : Nat} (h : s.io = .device id) :
    ioAfterIn p s = { s with ioDraws := s.ioDraws + 1, ioTrace := s.ioTrace ++ [.input p (ioValue p s)] } := by
  simp [ioAfterIn, h]

/-! ## The fetch -/

/-- The instruction fetched is decoded from the three bytes at PC, as many as its format takes. -/
theorem fetchInstr_eq (s : State) :
    fetchInstr s =
      match formatOf (memRead s.pc s) with
      | .f1 => (decodeOpcode (memRead s.pc s) 0 0, { s with pc := s.pc + 1 })
      | .f2 => (decodeOpcode (memRead s.pc s) (memRead (s.pc + 1) s) 0, { s with pc := s.pc + 1 + 1 })
      | .f3 => (decodeOpcode (memRead s.pc s) (memRead (s.pc + 1) s) (memRead (s.pc + 1 + 1) s),
          { s with pc := s.pc + 1 + 1 + 1 }) := by
  unfold fetchInstr fetch8
  split <;> simp_all <;> rfl

/-- A fetch changes PC alone. -/
theorem fetchInstr_state (s : State) : (fetchInstr s).2 = { s with pc := (fetchInstr s).2.pc } := by
  rw [fetchInstr_eq]; split <;> rfl

@[simp] theorem fetchInstr_mem (s : State) : (fetchInstr s).2.mem = s.mem := by rw [fetchInstr_state]

end Sys2Proof.Machine
end

