-- ==== Sys2Proof/Laws/Operands.lean ====
section
/-! SUPPORT. Reading an operand after writing it, and what a write leaves (10_state.md R21 to R24; 30_encoding.md R94,
R95). -/

namespace Sys2Proof.Machine

theorem regRead_regWrite_same (r : Reg) (v : Byte) (s : State) : regRead r (regWrite r v s) = v := by
  cases r <;> rfl

theorem regRead_regWrite_other {r q : Reg} (h : q ≠ r) (v : Byte) (s : State) : regRead q (regWrite r v s) = regRead q s := by
  cases r <;> cases q <;> first | rfl | exact absurd rfl h

@[simp] theorem bc_setBc (v : Word) (s : State) : bc (setBc v s) = v := by simp [bc]
@[simp] theorem de_setDe (v : Word) (s : State) : de (setDe v s) = v := by simp [de]
@[simp] theorem hl_setHl (v : Word) (s : State) : hl (setHl v s) = v := by simp [hl]
@[simp] theorem setBc_bc (s : State) : setBc (bc s) s = s := by simp [setBc, bc]
@[simp] theorem setDe_de (s : State) : setDe (de s) s = s := by simp [setDe, de]
@[simp] theorem setHl_hl (s : State) : setHl (hl s) s = s := by simp [setHl, hl]
@[simp] theorem setPsw_psw (s : State) : setPsw (psw s) s = s := by simp [setPsw, psw]

/-- A register pair reads as it was written. -/
theorem getRP_setRP (p : RegPair) (v : Word) (s : State) : getRP p (setRP p v s) = v := by
  cases p <;> simp [getRP, setRP]

theorem setRP_getRP (p : RegPair) (s : State) : setRP p (getRP p s) s = s := by
  cases p <;> simp [getRP, setRP]

/-- A stack pair put back as it was read changes nothing. -/
theorem setStackPair_getStackPair (p : StackPair) (s : State) : setStackPair p (getStackPair p s) s = s := by
  cases p <;> simp [getStackPair, setStackPair]

/-- M reads as it was written where the write leaves HL, and a register always. -/
theorem readR8_writeR8 (x : Operand8) (v : Byte) {s : State} (h : s.mem.wf) : readR8 x (writeR8 x v s) = v := by
  cases x with
  | reg r => exact regRead_regWrite_same r v s
  | m => exact memRead_memWrite_same (hl s) v h

theorem wf_writeR8 (x : Operand8) (v : Byte) {s : State} (h : s.mem.wf) : (writeR8 x v s).mem.wf := by
  cases x with
  | reg r => cases r <;> exact h
  | m => exact wf_memWrite (hl s) v h

end Sys2Proof.Machine
end

