-- ==== Sys2Proof/Laws/Meanings.lean ====
section
/-! SUPPORT. What the operations the meanings share compute, and that each keeps memory in its form. -/

namespace Sys2Proof.Machine

/-! ## Memory stays in its form -/

theorem wf_movMemReg (r : Reg) {s : State} (h : s.mem.wf) : (movMemReg r s).mem.wf := wf_memWrite _ _ h

theorem wf_incOperand (x : Operand8) {s : State} (h : s.mem.wf) : (incOperand x s).mem.wf := wf_writeR8 x _ h

theorem wf_decOperand (x : Operand8) {s : State} (h : s.mem.wf) : (decOperand x s).mem.wf := wf_writeR8 x _ h

theorem wf_callTo (w : Word) {s : State} (h : s.mem.wf) : (callTo w s).mem.wf := wf_push16 s.pc h

theorem wf_callIf (ccc : Cond) (w : Word) {s : State} (h : s.mem.wf) : (callIf ccc w s).mem.wf := by
  unfold callIf; split
  · exact wf_callTo w h
  · exact h

theorem wf_restart (n : Nat) {s : State} (h : s.mem.wf) : (restart n s).mem.wf := wf_callTo _ h

theorem wf_pushPair (p : StackPair) {s : State} (h : s.mem.wf) : (pushPair p s).mem.wf := wf_push16 _ h

theorem wf_exchangeTop {s : State} (h : s.mem.wf) : (exchangeTop s).mem.wf := wf_write16 s.sp (hl s) h

/-! ## Pairs -/

/-- The sum DAD leaves in HL. -/
theorem hl_addPairToHl (p : RegPair) (s : State) : hl (addPairToHl p s) = hl s + getRP p s := by
  rw [addPairToHl, hl_setHl]
  apply BitVec.eq_of_toNat_eq; simp

/-- A pair incremented and decremented is as it was. -/
theorem decPair_incPair (p : RegPair) (s : State) : decPair p (incPair p s) = s := by
  have : getRP p (incPair p s) - 1 = getRP p s := by rw [incPair, getRP_setRP]; bv_omega
  rw [decPair, this]
  cases p <;> simp [incPair, setRP, getRP, setBc, setDe, setHl, bc, de, hl]

/-! ## Rotates -/

/-- A rotate left: each bit moves up, and the bit given comes in. -/
theorem rotateLeft_bits (x : Bool) (s : State) :
    (rotateLeft x s).a.getLsbD 0 = x ∧ ∀ k < 7, (rotateLeft x s).a.getLsbD (k + 1) = s.a.getLsbD k := by
  have h : ∀ (x : Bool) (v : Byte), (BitVec.ofNat 8 (v.toNat * 2 + bit x)).getLsbD 0 = x ∧
      ∀ k : Fin 7, (BitVec.ofNat 8 (v.toNat * 2 + bit x)).getLsbD (k + 1) = v.getLsbD k := by decide +kernel
  exact ⟨(h x s.a).1, fun k hk => (h x s.a).2 ⟨k, hk⟩⟩

/-- A rotate right: each bit moves down, and the bit given comes in. -/
theorem rotateRight_bits (x : Bool) (s : State) :
    (rotateRight x s).a.getLsbD 7 = x ∧ ∀ k < 7, (rotateRight x s).a.getLsbD k = s.a.getLsbD (k + 1) := by
  have h : ∀ (x : Bool) (v : Byte), (BitVec.ofNat 8 (v.toNat / 2 + bit x * 128)).getLsbD 7 = x ∧
      ∀ k : Fin 7, (BitVec.ofNat 8 (v.toNat / 2 + bit x * 128)).getLsbD k = v.getLsbD (k + 1) := by decide +kernel
  exact ⟨(h x s.a).1, fun k hk => (h x s.a).2 ⟨k, hk⟩⟩

/-! ## The stack -/

/-- XTHL exchanges HL with the word on top of the stack. -/
theorem exchangeTop_spec {s : State} (h : s.mem.wf) :
    hl (exchangeTop s) = popValue s ∧ popValue (exchangeTop s) = hl s ∧ (exchangeTop s).sp = s.sp := by
  refine ⟨hl_setHl _ _, ?_, rfl⟩
  exact read16_write16 s.sp (hl s) h

end Sys2Proof.Machine
end

