-- ==== Sys2Proof/Laws/PerInstr.lean ====
section
/-! SUPPORT. A statement about every instruction as syntax, proved constructor by constructor: it is well formed, its encoding
has the length of its format, and its opcode byte has that format. -/

namespace Sys2Proof.Laws.EncodingFits

/-- An instruction is well formed, takes as many bytes as its format says (30_encoding.md R91), and its opcode byte calls
for that format (R92). -/
def Statement (i : Instr) : Prop :=
  i.wellFormed = true ∧ (encode i).length = i.format.length ∧ formatOf i.opcode = i.format

theorem of_written {i : Instr} (h : i.wellFormed = true) : Statement i := ⟨h, length_encode i, formatOf_opcode i⟩

theorem wellFormed_byte {i : Instr} (v : Byte) (h : i.wellFormed = Format.admits .f2 (.byte v.toNat)) :
    i.wellFormed = true := by
  rw [h]; simpa [Format.admits] using v.isLt

theorem wellFormed_word {i : Instr} (w : Word) (h : i.wellFormed = Format.admits .f3 (.word w.toNat)) :
    i.wellFormed = true := by
  rw [h]; simpa [Format.admits] using w.isLt

theorem nop : Statement .nop := of_written rfl
theorem lxiB (w : Word) : Statement (.lxiB w) := of_written (wellFormed_word w rfl)
theorem staxB : Statement .staxB := of_written rfl
theorem inxB : Statement .inxB := of_written rfl
theorem inrB : Statement .inrB := of_written rfl
theorem dcrB : Statement .dcrB := of_written rfl
theorem mviB (v : Byte) : Statement (.mviB v) := of_written (wellFormed_byte v rfl)
theorem rlc : Statement .rlc := of_written rfl
theorem nopAlias08 : Statement .nopAlias08 := of_written rfl
theorem dadB : Statement .dadB := of_written rfl
theorem ldaxB : Statement .ldaxB := of_written rfl
theorem dcxB : Statement .dcxB := of_written rfl
theorem inrC : Statement .inrC := of_written rfl
theorem dcrC : Statement .dcrC := of_written rfl
theorem mviC (v : Byte) : Statement (.mviC v) := of_written (wellFormed_byte v rfl)
theorem rrc : Statement .rrc := of_written rfl
theorem nopAlias10 : Statement .nopAlias10 := of_written rfl
theorem lxiD (w : Word) : Statement (.lxiD w) := of_written (wellFormed_word w rfl)
theorem staxD : Statement .staxD := of_written rfl
theorem inxD : Statement .inxD := of_written rfl
theorem inrD : Statement .inrD := of_written rfl
theorem dcrD : Statement .dcrD := of_written rfl
theorem mviD (v : Byte) : Statement (.mviD v) := of_written (wellFormed_byte v rfl)
theorem ral : Statement .ral := of_written rfl
theorem nopAlias18 : Statement .nopAlias18 := of_written rfl
theorem dadD : Statement .dadD := of_written rfl
theorem ldaxD : Statement .ldaxD := of_written rfl
theorem dcxD : Statement .dcxD := of_written rfl
theorem inrE : Statement .inrE := of_written rfl
theorem dcrE : Statement .dcrE := of_written rfl
theorem mviE (v : Byte) : Statement (.mviE v) := of_written (wellFormed_byte v rfl)
theorem rar : Statement .rar := of_written rfl
theorem nopAlias20 : Statement .nopAlias20 := of_written rfl
theorem lxiH (w : Word) : Statement (.lxiH w) := of_written (wellFormed_word w rfl)
theorem shld (w : Word) : Statement (.shld w) := of_written (wellFormed_word w rfl)
theorem inxH : Statement .inxH := of_written rfl
theorem inrH : Statement .inrH := of_written rfl
theorem dcrH : Statement .dcrH := of_written rfl
theorem mviH (v : Byte) : Statement (.mviH v) := of_written (wellFormed_byte v rfl)
theorem daa : Statement .daa := of_written rfl
theorem nopAlias28 : Statement .nopAlias28 := of_written rfl
theorem dadH : Statement .dadH := of_written rfl
theorem lhld (w : Word) : Statement (.lhld w) := of_written (wellFormed_word w rfl)
theorem dcxH : Statement .dcxH := of_written rfl
theorem inrL : Statement .inrL := of_written rfl
theorem dcrL : Statement .dcrL := of_written rfl
theorem mviL (v : Byte) : Statement (.mviL v) := of_written (wellFormed_byte v rfl)
theorem cma : Statement .cma := of_written rfl
theorem nopAlias30 : Statement .nopAlias30 := of_written rfl
theorem lxiSp (w : Word) : Statement (.lxiSp w) := of_written (wellFormed_word w rfl)
theorem sta (w : Word) : Statement (.sta w) := of_written (wellFormed_word w rfl)
theorem inxSp : Statement .inxSp := of_written rfl
theorem inrM : Statement .inrM := of_written rfl
theorem dcrM : Statement .dcrM := of_written rfl
theorem mviM (v : Byte) : Statement (.mviM v) := of_written (wellFormed_byte v rfl)
theorem stc : Statement .stc := of_written rfl
theorem nopAlias38 : Statement .nopAlias38 := of_written rfl
theorem dadSp : Statement .dadSp := of_written rfl
theorem lda (w : Word) : Statement (.lda w) := of_written (wellFormed_word w rfl)
theorem dcxSp : Statement .dcxSp := of_written rfl
theorem inrA : Statement .inrA := of_written rfl
theorem dcrA : Statement .dcrA := of_written rfl
theorem mviA (v : Byte) : Statement (.mviA v) := of_written (wellFormed_byte v rfl)
theorem cmc : Statement .cmc := of_written rfl
theorem movBB : Statement .movBB := of_written rfl
theorem movBC : Statement .movBC := of_written rfl
theorem movBD : Statement .movBD := of_written rfl
theorem movBE : Statement .movBE := of_written rfl
theorem movBH : Statement .movBH := of_written rfl
theorem movBL : Statement .movBL := of_written rfl
theorem movBM : Statement .movBM := of_written rfl
theorem movBA : Statement .movBA := of_written rfl
theorem movCB : Statement .movCB := of_written rfl
theorem movCC : Statement .movCC := of_written rfl
theorem movCD : Statement .movCD := of_written rfl
theorem movCE : Statement .movCE := of_written rfl
theorem movCH : Statement .movCH := of_written rfl
theorem movCL : Statement .movCL := of_written rfl
theorem movCM : Statement .movCM := of_written rfl
theorem movCA : Statement .movCA := of_written rfl
theorem movDB : Statement .movDB := of_written rfl
theorem movDC : Statement .movDC := of_written rfl
theorem movDD : Statement .movDD := of_written rfl
theorem movDE : Statement .movDE := of_written rfl
theorem movDH : Statement .movDH := of_written rfl
theorem movDL : Statement .movDL := of_written rfl
theorem movDM : Statement .movDM := of_written rfl
theorem movDA : Statement .movDA := of_written rfl
theorem movEB : Statement .movEB := of_written rfl
theorem movEC : Statement .movEC := of_written rfl
theorem movED : Statement .movED := of_written rfl
theorem movEE : Statement .movEE := of_written rfl
theorem movEH : Statement .movEH := of_written rfl
theorem movEL : Statement .movEL := of_written rfl
theorem movEM : Statement .movEM := of_written rfl
theorem movEA : Statement .movEA := of_written rfl
theorem movHB : Statement .movHB := of_written rfl
theorem movHC : Statement .movHC := of_written rfl
theorem movHD : Statement .movHD := of_written rfl
theorem movHE : Statement .movHE := of_written rfl
theorem movHH : Statement .movHH := of_written rfl
theorem movHL : Statement .movHL := of_written rfl
theorem movHM : Statement .movHM := of_written rfl
theorem movHA : Statement .movHA := of_written rfl
theorem movLB : Statement .movLB := of_written rfl
theorem movLC : Statement .movLC := of_written rfl
theorem movLD : Statement .movLD := of_written rfl
theorem movLE : Statement .movLE := of_written rfl
theorem movLH : Statement .movLH := of_written rfl
theorem movLL : Statement .movLL := of_written rfl
theorem movLM : Statement .movLM := of_written rfl
theorem movLA : Statement .movLA := of_written rfl
theorem movMB : Statement .movMB := of_written rfl
theorem movMC : Statement .movMC := of_written rfl
theorem movMD : Statement .movMD := of_written rfl
theorem movME : Statement .movME := of_written rfl
theorem movMH : Statement .movMH := of_written rfl
theorem movML : Statement .movML := of_written rfl
theorem hlt : Statement .hlt := of_written rfl
theorem movMA : Statement .movMA := of_written rfl
theorem movAB : Statement .movAB := of_written rfl
theorem movAC : Statement .movAC := of_written rfl
theorem movAD : Statement .movAD := of_written rfl
theorem movAE : Statement .movAE := of_written rfl
theorem movAH : Statement .movAH := of_written rfl
theorem movAL : Statement .movAL := of_written rfl
theorem movAM : Statement .movAM := of_written rfl
theorem movAA : Statement .movAA := of_written rfl
theorem addB : Statement .addB := of_written rfl
theorem addC : Statement .addC := of_written rfl
theorem addD : Statement .addD := of_written rfl
theorem addE : Statement .addE := of_written rfl
theorem addH : Statement .addH := of_written rfl
theorem addL : Statement .addL := of_written rfl
theorem addM : Statement .addM := of_written rfl
theorem addA : Statement .addA := of_written rfl
theorem adcB : Statement .adcB := of_written rfl
theorem adcC : Statement .adcC := of_written rfl
theorem adcD : Statement .adcD := of_written rfl
theorem adcE : Statement .adcE := of_written rfl
theorem adcH : Statement .adcH := of_written rfl
theorem adcL : Statement .adcL := of_written rfl
theorem adcM : Statement .adcM := of_written rfl
theorem adcA : Statement .adcA := of_written rfl
theorem subB : Statement .subB := of_written rfl
theorem subC : Statement .subC := of_written rfl
theorem subD : Statement .subD := of_written rfl
theorem subE : Statement .subE := of_written rfl
theorem subH : Statement .subH := of_written rfl
theorem subL : Statement .subL := of_written rfl
theorem subM : Statement .subM := of_written rfl
theorem subA : Statement .subA := of_written rfl
theorem sbbB : Statement .sbbB := of_written rfl
theorem sbbC : Statement .sbbC := of_written rfl
theorem sbbD : Statement .sbbD := of_written rfl
theorem sbbE : Statement .sbbE := of_written rfl
theorem sbbH : Statement .sbbH := of_written rfl
theorem sbbL : Statement .sbbL := of_written rfl
theorem sbbM : Statement .sbbM := of_written rfl
theorem sbbA : Statement .sbbA := of_written rfl
theorem anaB : Statement .anaB := of_written rfl
theorem anaC : Statement .anaC := of_written rfl
theorem anaD : Statement .anaD := of_written rfl
theorem anaE : Statement .anaE := of_written rfl
theorem anaH : Statement .anaH := of_written rfl
theorem anaL : Statement .anaL := of_written rfl
theorem anaM : Statement .anaM := of_written rfl
theorem anaA : Statement .anaA := of_written rfl
theorem xraB : Statement .xraB := of_written rfl
theorem xraC : Statement .xraC := of_written rfl
theorem xraD : Statement .xraD := of_written rfl
theorem xraE : Statement .xraE := of_written rfl
theorem xraH : Statement .xraH := of_written rfl
theorem xraL : Statement .xraL := of_written rfl
theorem xraM : Statement .xraM := of_written rfl
theorem xraA : Statement .xraA := of_written rfl
theorem oraB : Statement .oraB := of_written rfl
theorem oraC : Statement .oraC := of_written rfl
theorem oraD : Statement .oraD := of_written rfl
theorem oraE : Statement .oraE := of_written rfl
theorem oraH : Statement .oraH := of_written rfl
theorem oraL : Statement .oraL := of_written rfl
theorem oraM : Statement .oraM := of_written rfl
theorem oraA : Statement .oraA := of_written rfl
theorem cmpB : Statement .cmpB := of_written rfl
theorem cmpC : Statement .cmpC := of_written rfl
theorem cmpD : Statement .cmpD := of_written rfl
theorem cmpE : Statement .cmpE := of_written rfl
theorem cmpH : Statement .cmpH := of_written rfl
theorem cmpL : Statement .cmpL := of_written rfl
theorem cmpM : Statement .cmpM := of_written rfl
theorem cmpA : Statement .cmpA := of_written rfl
theorem rnz : Statement .rnz := of_written rfl
theorem popB : Statement .popB := of_written rfl
theorem jnz (w : Word) : Statement (.jnz w) := of_written (wellFormed_word w rfl)
theorem jmp (w : Word) : Statement (.jmp w) := of_written (wellFormed_word w rfl)
theorem cnz (w : Word) : Statement (.cnz w) := of_written (wellFormed_word w rfl)
theorem pushB : Statement .pushB := of_written rfl
theorem adi (v : Byte) : Statement (.adi v) := of_written (wellFormed_byte v rfl)
theorem rst0 : Statement .rst0 := of_written rfl
theorem rz : Statement .rz := of_written rfl
theorem ret : Statement .ret := of_written rfl
theorem jz (w : Word) : Statement (.jz w) := of_written (wellFormed_word w rfl)
theorem jmpAlias (w : Word) : Statement (.jmpAlias w) := of_written (wellFormed_word w rfl)
theorem cz (w : Word) : Statement (.cz w) := of_written (wellFormed_word w rfl)
theorem call (w : Word) : Statement (.call w) := of_written (wellFormed_word w rfl)
theorem aci (v : Byte) : Statement (.aci v) := of_written (wellFormed_byte v rfl)
theorem rst1 : Statement .rst1 := of_written rfl
theorem rnc : Statement .rnc := of_written rfl
theorem popD : Statement .popD := of_written rfl
theorem jnc (w : Word) : Statement (.jnc w) := of_written (wellFormed_word w rfl)
theorem outPort (v : Byte) : Statement (.outPort v) := of_written (wellFormed_byte v rfl)
theorem cnc (w : Word) : Statement (.cnc w) := of_written (wellFormed_word w rfl)
theorem pushD : Statement .pushD := of_written rfl
theorem sui (v : Byte) : Statement (.sui v) := of_written (wellFormed_byte v rfl)
theorem rst2 : Statement .rst2 := of_written rfl
theorem rc : Statement .rc := of_written rfl
theorem retAlias : Statement .retAlias := of_written rfl
theorem jc (w : Word) : Statement (.jc w) := of_written (wellFormed_word w rfl)
theorem inPort (v : Byte) : Statement (.inPort v) := of_written (wellFormed_byte v rfl)
theorem cc (w : Word) : Statement (.cc w) := of_written (wellFormed_word w rfl)
theorem callAliasDD (w : Word) : Statement (.callAliasDD w) := of_written (wellFormed_word w rfl)
theorem sbi (v : Byte) : Statement (.sbi v) := of_written (wellFormed_byte v rfl)
theorem rst3 : Statement .rst3 := of_written rfl
theorem rpo : Statement .rpo := of_written rfl
theorem popH : Statement .popH := of_written rfl
theorem jpo (w : Word) : Statement (.jpo w) := of_written (wellFormed_word w rfl)
theorem xthl : Statement .xthl := of_written rfl
theorem cpo (w : Word) : Statement (.cpo w) := of_written (wellFormed_word w rfl)
theorem pushH : Statement .pushH := of_written rfl
theorem ani (v : Byte) : Statement (.ani v) := of_written (wellFormed_byte v rfl)
theorem rst4 : Statement .rst4 := of_written rfl
theorem rpe : Statement .rpe := of_written rfl
theorem pchl : Statement .pchl := of_written rfl
theorem jpe (w : Word) : Statement (.jpe w) := of_written (wellFormed_word w rfl)
theorem xchg : Statement .xchg := of_written rfl
theorem cpe (w : Word) : Statement (.cpe w) := of_written (wellFormed_word w rfl)
theorem callAliasED (w : Word) : Statement (.callAliasED w) := of_written (wellFormed_word w rfl)
theorem xri (v : Byte) : Statement (.xri v) := of_written (wellFormed_byte v rfl)
theorem rst5 : Statement .rst5 := of_written rfl
theorem rp : Statement .rp := of_written rfl
theorem popPsw : Statement .popPsw := of_written rfl
theorem jp (w : Word) : Statement (.jp w) := of_written (wellFormed_word w rfl)
theorem di : Statement .di := of_written rfl
theorem cp (w : Word) : Statement (.cp w) := of_written (wellFormed_word w rfl)
theorem pushPsw : Statement .pushPsw := of_written rfl
theorem ori (v : Byte) : Statement (.ori v) := of_written (wellFormed_byte v rfl)
theorem rst6 : Statement .rst6 := of_written rfl
theorem rm : Statement .rm := of_written rfl
theorem sphl : Statement .sphl := of_written rfl
theorem jm (w : Word) : Statement (.jm w) := of_written (wellFormed_word w rfl)
theorem ei : Statement .ei := of_written rfl
theorem cm (w : Word) : Statement (.cm w) := of_written (wellFormed_word w rfl)
theorem callAliasFD (w : Word) : Statement (.callAliasFD w) := of_written (wellFormed_word w rfl)
theorem cpi (v : Byte) : Statement (.cpi v) := of_written (wellFormed_byte v rfl)
theorem rst7 : Statement .rst7 := of_written rfl

end Sys2Proof.Laws.EncodingFits
end

