-- ==== Sys2Proof/Tests/Slice0.lean ====
section
/-! SUPPORT. Tests: the ill-formed operands the checks refuse, the decoding of every opcode byte, steps from small states, the
host's operations, and a witness for every statement that has hypotheses. Words are written out from the opcode map
(30_encoding.md R101); a test_V... or test_H... is the vector of that number in spec/95_test_vectors.md, with its start and
its end state; another test's values are worked out by hand from the rule it names. -/

namespace Sys2Proof.Tests
open Machine Claims

/-- A new core with these bytes at this address, and PC there. -/
def code (pc : Word) (bytes : List Byte) : State := { storeBytes pc bytes State.reset with pc := pc }

/-- What is seen of the state after one step. -/
def look {α : Type} (s : State) (f : State → α) : Option α :=
  match step s with
  | .next t => some (f t)
  | _ => none

/-! ## Well-formedness: each check refuses an ill-formed operand -/

theorem test_byte_operand_too_large_is_refused : Format.admits .f2 (.byte 0x100) = false := by decide
theorem test_largest_byte_operand_is_admitted : Format.admits .f2 (.byte 0xFF) = true := by decide
theorem test_word_operand_too_large_is_refused : Format.admits .f3 (.word 0x10000) = false := by decide
theorem test_largest_word_operand_is_admitted : Format.admits .f3 (.word 0xFFFF) = true := by decide
theorem test_operand_of_the_wrong_kind_is_refused :
    Format.admits .f1 (.byte 0) = false ∧ Format.admits .f1 (.word 0) = false ∧ Format.admits .f2 .absent = false ∧
    Format.admits .f2 (.word 0) = false ∧ Format.admits .f3 .absent = false ∧ Format.admits .f3 (.byte 0) = false := by
  decide
theorem test_instructions_are_well_formed :
    Instr.nop.wellFormed = true ∧ (Instr.mviA 0xFF).wellFormed = true ∧ (Instr.jmp 0xFFFF).wellFormed = true := by decide

/-! ## Decoding: every opcode byte, its word written out from the opcode map (R101); an operand has bits of its own, its low
byte first (R91) -/

theorem test_decode_row_0x :
    decodeTableWord 8 0x00 = some .nop ∧
    decodeTableWord 24 0x123401 = some (.lxiB 0x1234) ∧
    decodeTableWord 8 0x02 = some .staxB ∧
    decodeTableWord 8 0x03 = some .inxB ∧
    decodeTableWord 8 0x04 = some .inrB ∧
    decodeTableWord 8 0x05 = some .dcrB ∧
    decodeTableWord 16 0xA506 = some (.mviB 0xA5) ∧
    decodeTableWord 8 0x07 = some .rlc ∧
    decodeTableWord 8 0x08 = some .nopAlias08 ∧
    decodeTableWord 8 0x09 = some .dadB ∧
    decodeTableWord 8 0x0A = some .ldaxB ∧
    decodeTableWord 8 0x0B = some .dcxB ∧
    decodeTableWord 8 0x0C = some .inrC ∧
    decodeTableWord 8 0x0D = some .dcrC ∧
    decodeTableWord 16 0xA50E = some (.mviC 0xA5) ∧
    decodeTableWord 8 0x0F = some .rrc := by decide

theorem test_decode_row_1x :
    decodeTableWord 8 0x10 = some .nopAlias10 ∧
    decodeTableWord 24 0x123411 = some (.lxiD 0x1234) ∧
    decodeTableWord 8 0x12 = some .staxD ∧
    decodeTableWord 8 0x13 = some .inxD ∧
    decodeTableWord 8 0x14 = some .inrD ∧
    decodeTableWord 8 0x15 = some .dcrD ∧
    decodeTableWord 16 0xA516 = some (.mviD 0xA5) ∧
    decodeTableWord 8 0x17 = some .ral ∧
    decodeTableWord 8 0x18 = some .nopAlias18 ∧
    decodeTableWord 8 0x19 = some .dadD ∧
    decodeTableWord 8 0x1A = some .ldaxD ∧
    decodeTableWord 8 0x1B = some .dcxD ∧
    decodeTableWord 8 0x1C = some .inrE ∧
    decodeTableWord 8 0x1D = some .dcrE ∧
    decodeTableWord 16 0xA51E = some (.mviE 0xA5) ∧
    decodeTableWord 8 0x1F = some .rar := by decide

theorem test_decode_row_2x :
    decodeTableWord 8 0x20 = some .nopAlias20 ∧
    decodeTableWord 24 0x123421 = some (.lxiH 0x1234) ∧
    decodeTableWord 24 0x123422 = some (.shld 0x1234) ∧
    decodeTableWord 8 0x23 = some .inxH ∧
    decodeTableWord 8 0x24 = some .inrH ∧
    decodeTableWord 8 0x25 = some .dcrH ∧
    decodeTableWord 16 0xA526 = some (.mviH 0xA5) ∧
    decodeTableWord 8 0x27 = some .daa ∧
    decodeTableWord 8 0x28 = some .nopAlias28 ∧
    decodeTableWord 8 0x29 = some .dadH ∧
    decodeTableWord 24 0x12342A = some (.lhld 0x1234) ∧
    decodeTableWord 8 0x2B = some .dcxH ∧
    decodeTableWord 8 0x2C = some .inrL ∧
    decodeTableWord 8 0x2D = some .dcrL ∧
    decodeTableWord 16 0xA52E = some (.mviL 0xA5) ∧
    decodeTableWord 8 0x2F = some .cma := by decide

theorem test_decode_row_3x :
    decodeTableWord 8 0x30 = some .nopAlias30 ∧
    decodeTableWord 24 0x123431 = some (.lxiSp 0x1234) ∧
    decodeTableWord 24 0x123432 = some (.sta 0x1234) ∧
    decodeTableWord 8 0x33 = some .inxSp ∧
    decodeTableWord 8 0x34 = some .inrM ∧
    decodeTableWord 8 0x35 = some .dcrM ∧
    decodeTableWord 16 0xA536 = some (.mviM 0xA5) ∧
    decodeTableWord 8 0x37 = some .stc ∧
    decodeTableWord 8 0x38 = some .nopAlias38 ∧
    decodeTableWord 8 0x39 = some .dadSp ∧
    decodeTableWord 24 0x12343A = some (.lda 0x1234) ∧
    decodeTableWord 8 0x3B = some .dcxSp ∧
    decodeTableWord 8 0x3C = some .inrA ∧
    decodeTableWord 8 0x3D = some .dcrA ∧
    decodeTableWord 16 0xA53E = some (.mviA 0xA5) ∧
    decodeTableWord 8 0x3F = some .cmc := by decide

theorem test_decode_row_4x :
    decodeTableWord 8 0x40 = some .movBB ∧
    decodeTableWord 8 0x41 = some .movBC ∧
    decodeTableWord 8 0x42 = some .movBD ∧
    decodeTableWord 8 0x43 = some .movBE ∧
    decodeTableWord 8 0x44 = some .movBH ∧
    decodeTableWord 8 0x45 = some .movBL ∧
    decodeTableWord 8 0x46 = some .movBM ∧
    decodeTableWord 8 0x47 = some .movBA ∧
    decodeTableWord 8 0x48 = some .movCB ∧
    decodeTableWord 8 0x49 = some .movCC ∧
    decodeTableWord 8 0x4A = some .movCD ∧
    decodeTableWord 8 0x4B = some .movCE ∧
    decodeTableWord 8 0x4C = some .movCH ∧
    decodeTableWord 8 0x4D = some .movCL ∧
    decodeTableWord 8 0x4E = some .movCM ∧
    decodeTableWord 8 0x4F = some .movCA := by decide

theorem test_decode_row_5x :
    decodeTableWord 8 0x50 = some .movDB ∧
    decodeTableWord 8 0x51 = some .movDC ∧
    decodeTableWord 8 0x52 = some .movDD ∧
    decodeTableWord 8 0x53 = some .movDE ∧
    decodeTableWord 8 0x54 = some .movDH ∧
    decodeTableWord 8 0x55 = some .movDL ∧
    decodeTableWord 8 0x56 = some .movDM ∧
    decodeTableWord 8 0x57 = some .movDA ∧
    decodeTableWord 8 0x58 = some .movEB ∧
    decodeTableWord 8 0x59 = some .movEC ∧
    decodeTableWord 8 0x5A = some .movED ∧
    decodeTableWord 8 0x5B = some .movEE ∧
    decodeTableWord 8 0x5C = some .movEH ∧
    decodeTableWord 8 0x5D = some .movEL ∧
    decodeTableWord 8 0x5E = some .movEM ∧
    decodeTableWord 8 0x5F = some .movEA := by decide

theorem test_decode_row_6x :
    decodeTableWord 8 0x60 = some .movHB ∧
    decodeTableWord 8 0x61 = some .movHC ∧
    decodeTableWord 8 0x62 = some .movHD ∧
    decodeTableWord 8 0x63 = some .movHE ∧
    decodeTableWord 8 0x64 = some .movHH ∧
    decodeTableWord 8 0x65 = some .movHL ∧
    decodeTableWord 8 0x66 = some .movHM ∧
    decodeTableWord 8 0x67 = some .movHA ∧
    decodeTableWord 8 0x68 = some .movLB ∧
    decodeTableWord 8 0x69 = some .movLC ∧
    decodeTableWord 8 0x6A = some .movLD ∧
    decodeTableWord 8 0x6B = some .movLE ∧
    decodeTableWord 8 0x6C = some .movLH ∧
    decodeTableWord 8 0x6D = some .movLL ∧
    decodeTableWord 8 0x6E = some .movLM ∧
    decodeTableWord 8 0x6F = some .movLA := by decide

theorem test_decode_row_7x :
    decodeTableWord 8 0x70 = some .movMB ∧
    decodeTableWord 8 0x71 = some .movMC ∧
    decodeTableWord 8 0x72 = some .movMD ∧
    decodeTableWord 8 0x73 = some .movME ∧
    decodeTableWord 8 0x74 = some .movMH ∧
    decodeTableWord 8 0x75 = some .movML ∧
    decodeTableWord 8 0x76 = some .hlt ∧
    decodeTableWord 8 0x77 = some .movMA ∧
    decodeTableWord 8 0x78 = some .movAB ∧
    decodeTableWord 8 0x79 = some .movAC ∧
    decodeTableWord 8 0x7A = some .movAD ∧
    decodeTableWord 8 0x7B = some .movAE ∧
    decodeTableWord 8 0x7C = some .movAH ∧
    decodeTableWord 8 0x7D = some .movAL ∧
    decodeTableWord 8 0x7E = some .movAM ∧
    decodeTableWord 8 0x7F = some .movAA := by decide

theorem test_decode_row_8x :
    decodeTableWord 8 0x80 = some .addB ∧
    decodeTableWord 8 0x81 = some .addC ∧
    decodeTableWord 8 0x82 = some .addD ∧
    decodeTableWord 8 0x83 = some .addE ∧
    decodeTableWord 8 0x84 = some .addH ∧
    decodeTableWord 8 0x85 = some .addL ∧
    decodeTableWord 8 0x86 = some .addM ∧
    decodeTableWord 8 0x87 = some .addA ∧
    decodeTableWord 8 0x88 = some .adcB ∧
    decodeTableWord 8 0x89 = some .adcC ∧
    decodeTableWord 8 0x8A = some .adcD ∧
    decodeTableWord 8 0x8B = some .adcE ∧
    decodeTableWord 8 0x8C = some .adcH ∧
    decodeTableWord 8 0x8D = some .adcL ∧
    decodeTableWord 8 0x8E = some .adcM ∧
    decodeTableWord 8 0x8F = some .adcA := by decide

theorem test_decode_row_9x :
    decodeTableWord 8 0x90 = some .subB ∧
    decodeTableWord 8 0x91 = some .subC ∧
    decodeTableWord 8 0x92 = some .subD ∧
    decodeTableWord 8 0x93 = some .subE ∧
    decodeTableWord 8 0x94 = some .subH ∧
    decodeTableWord 8 0x95 = some .subL ∧
    decodeTableWord 8 0x96 = some .subM ∧
    decodeTableWord 8 0x97 = some .subA ∧
    decodeTableWord 8 0x98 = some .sbbB ∧
    decodeTableWord 8 0x99 = some .sbbC ∧
    decodeTableWord 8 0x9A = some .sbbD ∧
    decodeTableWord 8 0x9B = some .sbbE ∧
    decodeTableWord 8 0x9C = some .sbbH ∧
    decodeTableWord 8 0x9D = some .sbbL ∧
    decodeTableWord 8 0x9E = some .sbbM ∧
    decodeTableWord 8 0x9F = some .sbbA := by decide

theorem test_decode_row_Ax :
    decodeTableWord 8 0xA0 = some .anaB ∧
    decodeTableWord 8 0xA1 = some .anaC ∧
    decodeTableWord 8 0xA2 = some .anaD ∧
    decodeTableWord 8 0xA3 = some .anaE ∧
    decodeTableWord 8 0xA4 = some .anaH ∧
    decodeTableWord 8 0xA5 = some .anaL ∧
    decodeTableWord 8 0xA6 = some .anaM ∧
    decodeTableWord 8 0xA7 = some .anaA ∧
    decodeTableWord 8 0xA8 = some .xraB ∧
    decodeTableWord 8 0xA9 = some .xraC ∧
    decodeTableWord 8 0xAA = some .xraD ∧
    decodeTableWord 8 0xAB = some .xraE ∧
    decodeTableWord 8 0xAC = some .xraH ∧
    decodeTableWord 8 0xAD = some .xraL ∧
    decodeTableWord 8 0xAE = some .xraM ∧
    decodeTableWord 8 0xAF = some .xraA := by decide

theorem test_decode_row_Bx :
    decodeTableWord 8 0xB0 = some .oraB ∧
    decodeTableWord 8 0xB1 = some .oraC ∧
    decodeTableWord 8 0xB2 = some .oraD ∧
    decodeTableWord 8 0xB3 = some .oraE ∧
    decodeTableWord 8 0xB4 = some .oraH ∧
    decodeTableWord 8 0xB5 = some .oraL ∧
    decodeTableWord 8 0xB6 = some .oraM ∧
    decodeTableWord 8 0xB7 = some .oraA ∧
    decodeTableWord 8 0xB8 = some .cmpB ∧
    decodeTableWord 8 0xB9 = some .cmpC ∧
    decodeTableWord 8 0xBA = some .cmpD ∧
    decodeTableWord 8 0xBB = some .cmpE ∧
    decodeTableWord 8 0xBC = some .cmpH ∧
    decodeTableWord 8 0xBD = some .cmpL ∧
    decodeTableWord 8 0xBE = some .cmpM ∧
    decodeTableWord 8 0xBF = some .cmpA := by decide

theorem test_decode_row_Cx :
    decodeTableWord 8 0xC0 = some .rnz ∧
    decodeTableWord 8 0xC1 = some .popB ∧
    decodeTableWord 24 0x1234C2 = some (.jnz 0x1234) ∧
    decodeTableWord 24 0x1234C3 = some (.jmp 0x1234) ∧
    decodeTableWord 24 0x1234C4 = some (.cnz 0x1234) ∧
    decodeTableWord 8 0xC5 = some .pushB ∧
    decodeTableWord 16 0xA5C6 = some (.adi 0xA5) ∧
    decodeTableWord 8 0xC7 = some .rst0 ∧
    decodeTableWord 8 0xC8 = some .rz ∧
    decodeTableWord 8 0xC9 = some .ret ∧
    decodeTableWord 24 0x1234CA = some (.jz 0x1234) ∧
    decodeTableWord 24 0x1234CB = some (.jmpAlias 0x1234) ∧
    decodeTableWord 24 0x1234CC = some (.cz 0x1234) ∧
    decodeTableWord 24 0x1234CD = some (.call 0x1234) ∧
    decodeTableWord 16 0xA5CE = some (.aci 0xA5) ∧
    decodeTableWord 8 0xCF = some .rst1 := by decide

theorem test_decode_row_Dx :
    decodeTableWord 8 0xD0 = some .rnc ∧
    decodeTableWord 8 0xD1 = some .popD ∧
    decodeTableWord 24 0x1234D2 = some (.jnc 0x1234) ∧
    decodeTableWord 16 0xA5D3 = some (.outPort 0xA5) ∧
    decodeTableWord 24 0x1234D4 = some (.cnc 0x1234) ∧
    decodeTableWord 8 0xD5 = some .pushD ∧
    decodeTableWord 16 0xA5D6 = some (.sui 0xA5) ∧
    decodeTableWord 8 0xD7 = some .rst2 ∧
    decodeTableWord 8 0xD8 = some .rc ∧
    decodeTableWord 8 0xD9 = some .retAlias ∧
    decodeTableWord 24 0x1234DA = some (.jc 0x1234) ∧
    decodeTableWord 16 0xA5DB = some (.inPort 0xA5) ∧
    decodeTableWord 24 0x1234DC = some (.cc 0x1234) ∧
    decodeTableWord 24 0x1234DD = some (.callAliasDD 0x1234) ∧
    decodeTableWord 16 0xA5DE = some (.sbi 0xA5) ∧
    decodeTableWord 8 0xDF = some .rst3 := by decide

theorem test_decode_row_Ex :
    decodeTableWord 8 0xE0 = some .rpo ∧
    decodeTableWord 8 0xE1 = some .popH ∧
    decodeTableWord 24 0x1234E2 = some (.jpo 0x1234) ∧
    decodeTableWord 8 0xE3 = some .xthl ∧
    decodeTableWord 24 0x1234E4 = some (.cpo 0x1234) ∧
    decodeTableWord 8 0xE5 = some .pushH ∧
    decodeTableWord 16 0xA5E6 = some (.ani 0xA5) ∧
    decodeTableWord 8 0xE7 = some .rst4 ∧
    decodeTableWord 8 0xE8 = some .rpe ∧
    decodeTableWord 8 0xE9 = some .pchl ∧
    decodeTableWord 24 0x1234EA = some (.jpe 0x1234) ∧
    decodeTableWord 8 0xEB = some .xchg ∧
    decodeTableWord 24 0x1234EC = some (.cpe 0x1234) ∧
    decodeTableWord 24 0x1234ED = some (.callAliasED 0x1234) ∧
    decodeTableWord 16 0xA5EE = some (.xri 0xA5) ∧
    decodeTableWord 8 0xEF = some .rst5 := by decide

theorem test_decode_row_Fx :
    decodeTableWord 8 0xF0 = some .rp ∧
    decodeTableWord 8 0xF1 = some .popPsw ∧
    decodeTableWord 24 0x1234F2 = some (.jp 0x1234) ∧
    decodeTableWord 8 0xF3 = some .di ∧
    decodeTableWord 24 0x1234F4 = some (.cp 0x1234) ∧
    decodeTableWord 8 0xF5 = some .pushPsw ∧
    decodeTableWord 16 0xA5F6 = some (.ori 0xA5) ∧
    decodeTableWord 8 0xF7 = some .rst6 ∧
    decodeTableWord 8 0xF8 = some .rm ∧
    decodeTableWord 8 0xF9 = some .sphl ∧
    decodeTableWord 24 0x1234FA = some (.jm 0x1234) ∧
    decodeTableWord 8 0xFB = some .ei ∧
    decodeTableWord 24 0x1234FC = some (.cm 0x1234) ∧
    decodeTableWord 24 0x1234FD = some (.callAliasFD 0x1234) ∧
    decodeTableWord 16 0xA5FE = some (.cpi 0xA5) ∧
    decodeTableWord 8 0xFF = some .rst7 := by decide

/-! ## One step from a small state: the vectors of spec/95_test_vectors.md part 2 -/

theorem test_V40_2_add8_0x0f_0x01_half_carry :
    look { code 0x0000 [0x80] with a := 0x0F, b := 0x01 } (fun t => (t.a, flagByte t.flags, t.pc)) =
      some (0x10, 0x12, 0x0001) := by decide

theorem test_V40_3_add8_0xff_0x01_carry_and_zero :
    look { code 0x0000 [0x80] with a := 0xFF, b := 0x01 } (fun t => (t.a, flagByte t.flags, t.pc)) =
      some (0x00, 0x57, 0x0001) := by decide

theorem test_V40_7_add8_0x0f_0x00_1_ac_from :
    look { code 0x0000 [0x88] with a := 0x0F, b := 0x00, flags := flagsOfByte 0x03 } (fun t => (t.a, flagByte t.flags, t.pc)) =
      some (0x10, 0x12, 0x0001) := by decide

theorem test_V40_9_sub8_0x00_0x01_borrow :
    look { code 0x0000 [0x90] with a := 0x00, b := 0x01 } (fun t => (t.a, flagByte t.flags, t.pc)) =
      some (0xFF, 0x97, 0x0001) := by decide

theorem test_V40_10_sub8_0x10_0x01_low_nibble_borrow :
    look { code 0x0000 [0x90] with a := 0x10, b := 0x01 } (fun t => (t.a, flagByte t.flags, t.pc)) =
      some (0x0F, 0x16, 0x0001) := by decide

theorem test_V40_13_sub8_0x00_0xff_1_sbb_max :
    look { code 0x0000 [0x98] with a := 0x00, b := 0xFF, flags := flagsOfByte 0x03 } (fun t => (flagByte t.flags, t.pc)) =
      some (0x57, 0x0001) := by decide

theorem test_V40_16_and8_0xfc_0x0f_ac_from_bit :
    look { code 0x0000 [0xA0] with a := 0xFC, b := 0x0F, flags := flagsOfByte 0x03 } (fun t => (t.a, flagByte t.flags, t.pc)) =
      some (0x0C, 0x16, 0x0001) := by decide

theorem test_V40_18_and8_0x08_0x00_ac_1_though :
    look { code 0x0000 [0xA0] with a := 0x08, b := 0x00, flags := flagsOfByte 0x03 } (fun t => (t.a, flagByte t.flags, t.pc)) =
      some (0x00, 0x56, 0x0001) := by decide

theorem test_V40_20_xor8_0x5c_xor_0x78_cy_cleared :
    look { code 0x0000 [0xA8] with a := 0x5C, b := 0x78, flags := flagsOfByte 0x13 } (fun t => (t.a, flagByte t.flags, t.pc)) =
      some (0x24, 0x06, 0x0001) := by decide

theorem test_V40_21_or8_0x33_or_0x0f_ac_and :
    look { code 0x0000 [0xB0] with a := 0x33, b := 0x0F, flags := flagsOfByte 0x13 } (fun t => (t.a, flagByte t.flags, t.pc)) =
      some (0x3F, 0x06, 0x0001) := by decide

theorem test_V40_22_inc8_0xff :
    look { code 0x0000 [0x04] with b := 0xFF, flags := flagsOfByte 0x03 } (fun t => (t.b, flagByte t.flags, t.pc)) =
      some (0x00, 0x57, 0x0001) := by decide

theorem test_V40_27_dec8_0x10 :
    look { code 0x0000 [0x05] with b := 0x10, flags := flagsOfByte 0x03 } (fun t => (t.b, flagByte t.flags, t.pc)) =
      some (0x0F, 0x17, 0x0001) := by decide

theorem test_V40_37_parity_of_0x96_via_ora_a :
    look { code 0x0000 [0xB7] with a := 0x96 } (fun t => (t.a, flagByte t.flags, t.pc)) =
      some (0x96, 0x86, 0x0001) := by decide

theorem test_V41_2_mov_a_a_leaves_all_state :
    look { code 0x0000 [0x7F] with a := 0x5A, flags := flagsOfByte 0xD7 } (fun t => (t.a, flagByte t.flags, t.pc)) =
      some (0x5A, 0xD7, 0x0001) := by decide

theorem test_V41_4_mov_a_m :
    look { poke 0x2000 0xA5 (code 0x0000 [0x7E]) with h := 0x20, l := 0x00 } (fun t => (t.a, flagByte t.flags, t.pc)) =
      some (0xA5, 0x02, 0x0001) := by decide

theorem test_V41_5_mov_h_m_address_read_before :
    look { poke 0x2000 0x77 (code 0x0000 [0x66]) with h := 0x20, l := 0x00 } (fun t => (t.h, flagByte t.flags, t.pc)) =
      some (0x77, 0x02, 0x0001) := by decide

theorem test_V41_7_mov_m_h_writes_the_high :
    look { code 0x0000 [0x74] with h := 0x20, l := 0x00 } (fun t => (flagByte t.flags, t.pc, memRead 0x2000 t)) =
      some (0x02, 0x0001, 0x20) := by decide

theorem test_V41_9_mvi_l_at_0xffff_immediate_fetched :
    look (poke 0x0000 0x99 (code 0xFFFF [0x2E])) (fun t => (t.l, flagByte t.flags, t.pc)) =
      some (0x99, 0x02, 0x0001) := by decide

theorem test_V41_10_mvi_m_d8 :
    look { code 0x0000 [0x36, 0x7F] with h := 0x30, l := 0x00 } (fun t => (flagByte t.flags, t.pc, memRead 0x3000 t)) =
      some (0x02, 0x0002, 0x7F) := by decide

theorem test_V41_11_lxi_b_d16 :
    look (code 0x0000 [0x01, 0x34, 0x12]) (fun t => (t.b, t.c, flagByte t.flags, t.pc)) =
      some (0x12, 0x34, 0x02, 0x0003) := by decide

theorem test_V41_13_lxi_h_at_0xfffe_high_byte :
    look (poke 0x0000 0x12 (code 0xFFFE [0x21, 0x34])) (fun t => (t.h, t.l, flagByte t.flags, t.pc)) =
      some (0x12, 0x34, 0x02, 0x0001) := by decide

theorem test_V41_14_stax_b :
    look { code 0x0000 [0x02] with b := 0x40, c := 0x00, a := 0x99 } (fun t => (flagByte t.flags, t.pc, memRead 0x4000 t)) =
      some (0x02, 0x0001, 0x99) := by decide

theorem test_V41_17_ldax_d :
    look { poke 0x4000 0x42 (code 0x0000 [0x1A]) with d := 0x40, e := 0x00 } (fun t => (t.a, flagByte t.flags, t.pc)) =
      some (0x42, 0x02, 0x0001) := by decide

theorem test_V41_19_shld_0xffff_high_byte_wraps_to :
    look { code 0x0100 [0x22, 0xFF, 0xFF] with h := 0xBE, l := 0xEF } (fun t => (flagByte t.flags, t.pc, memRead 0x0000 t, memRead 0xFFFF t)) =
      some (0x02, 0x0103, 0xBE, 0xEF) := by decide

theorem test_V41_21_lhld_0xffff_high_byte_from_0x0000 :
    look (poke 0x0000 0x12 (poke 0xFFFF 0x34 (code 0x0100 [0x2A, 0xFF, 0xFF]))) (fun t => (t.h, t.l, flagByte t.flags, t.pc)) =
      some (0x12, 0x34, 0x02, 0x0103) := by decide

theorem test_V41_23_sta_over_its_own_address_byte :
    look { code 0x0100 [0x32, 0x01, 0x01] with a := 0xEE } (fun t => (t.a, flagByte t.flags, t.pc, memRead 0x0101 t)) =
      some (0xEE, 0x02, 0x0103, 0xEE) := by decide

theorem test_V41_24_lda :
    look (poke 0x1234 0x77 (code 0x0000 [0x3A, 0x34, 0x12])) (fun t => (t.a, flagByte t.flags, t.pc)) =
      some (0x77, 0x02, 0x0003) := by decide

theorem test_V42_1_add_a_doubles_a :
    look { code 0x0000 [0x87] with a := 0x81 } (fun t => (t.a, flagByte t.flags, t.pc)) =
      some (0x02, 0x03, 0x0001) := by decide

theorem test_V42_2_add_m :
    look { poke 0x2000 0xC6 (code 0x0000 [0x86]) with a := 0x3A, h := 0x20, l := 0x00 } (fun t => (t.a, flagByte t.flags, t.pc)) =
      some (0x00, 0x57, 0x0001) := by decide

theorem test_V42_4_adc_a_with_cy_1 :
    look { code 0x0000 [0x8F] with a := 0x80, flags := flagsOfByte 0x03 } (fun t => (t.a, flagByte t.flags, t.pc)) =
      some (0x01, 0x03, 0x0001) := by decide

theorem test_V42_8_sub_m_borrow :
    look { poke 0x2000 0x01 (code 0x0000 [0x96]) with a := 0x00, h := 0x20, l := 0x00 } (fun t => (t.a, flagByte t.flags, t.pc)) =
      some (0xFF, 0x97, 0x0001) := by decide

theorem test_V42_10_sbb_a_with_cy_1_gives :
    look { code 0x0000 [0x9F] with a := 0x42, flags := flagsOfByte 0x03 } (fun t => (t.a, flagByte t.flags, t.pc)) =
      some (0xFF, 0x97, 0x0001) := by decide

theorem test_V42_13_ana_a_ac_bit_3_of :
    look { code 0x0000 [0xA7] with a := 0x08 } (fun t => (t.a, flagByte t.flags, t.pc)) =
      some (0x08, 0x12, 0x0001) := by decide

theorem test_V42_15_xra_a :
    look { code 0x0000 [0xAF] with a := 0x5A, flags := flagsOfByte 0x13 } (fun t => (t.a, flagByte t.flags, t.pc)) =
      some (0x00, 0x46, 0x0001) := by decide

theorem test_V42_17_xra_m :
    look { poke 0x2000 0x0F (code 0x0000 [0xAE]) with a := 0xFF, h := 0x20, l := 0x00 } (fun t => (t.a, flagByte t.flags, t.pc)) =
      some (0xF0, 0x86, 0x0001) := by decide

theorem test_V42_20_ora_m_zero :
    look { code 0x0000 [0xB6] with a := 0x00, h := 0x20, l := 0x00 } (fun t => (flagByte t.flags, t.pc)) =
      some (0x46, 0x0001) := by decide

theorem test_V42_23_cmp_a :
    look { code 0x0000 [0xBF] with a := 0x99, flags := flagsOfByte 0x03 } (fun t => (t.a, flagByte t.flags, t.pc)) =
      some (0x99, 0x46, 0x0001) := by decide

theorem test_V42_24_cmp_m_a_less :
    look { poke 0x2000 0x05 (code 0x0000 [0xBE]) with a := 0x02, h := 0x20, l := 0x00 } (fun t => (flagByte t.flags, t.pc)) =
      some (0x93, 0x0001) := by decide

theorem test_V42_26_adi_8_scenario_3 :
    look { code 0x0000 [0xC6, 0x01] with a := 0xFF } (fun t => (t.a, flagByte t.flags, t.pc)) =
      some (0x00, 0x57, 0x0002) := by decide

theorem test_V42_28_aci_0xff_with_cy_1_a :
    look { code 0x0000 [0xCE, 0xFF] with a := 0x37, flags := flagsOfByte 0x03 } (fun t => (t.a, flagByte t.flags, t.pc)) =
      some (0x37, 0x13, 0x0002) := by decide

theorem test_V42_29_sui :
    look { code 0x0000 [0xD6, 0x01] with a := 0x00 } (fun t => (t.a, flagByte t.flags, t.pc)) =
      some (0xFF, 0x97, 0x0002) := by decide

theorem test_V42_30_sbi_with_cy_1 :
    look { code 0x0000 [0xDE, 0x01] with a := 0x00, flags := flagsOfByte 0x03 } (fun t => (t.a, flagByte t.flags, t.pc)) =
      some (0xFE, 0x93, 0x0002) := by decide

theorem test_V42_32_ani :
    look { code 0x0000 [0xE6, 0x0F] with a := 0x3A } (fun t => (t.a, flagByte t.flags, t.pc)) =
      some (0x0A, 0x16, 0x0002) := by decide

theorem test_V42_34_xri_0xff_complements_a_and_sets :
    look { code 0x0000 [0xEE, 0xFF] with a := 0x0F } (fun t => (t.a, flagByte t.flags, t.pc)) =
      some (0xF0, 0x86, 0x0002) := by decide

theorem test_V42_35_ori :
    look { code 0x0000 [0xF6, 0x0F] with a := 0xB5 } (fun t => (t.a, flagByte t.flags, t.pc)) =
      some (0xBF, 0x82, 0x0002) := by decide

theorem test_V42_36_cpi_8_scenario_5 :
    look { code 0x0000 [0xFE, 0x01] with a := 0x00 } (fun t => (t.a, flagByte t.flags, t.pc)) =
      some (0x00, 0x97, 0x0002) := by decide

theorem test_V43_2_inr_a_0x7f :
    look { code 0x0000 [0x3C] with a := 0x7F, flags := flagsOfByte 0x03 } (fun t => (t.a, flagByte t.flags, t.pc)) =
      some (0x80, 0x93, 0x0001) := by decide

theorem test_V43_4_inr_m_0xff_keeps_cy :
    look { poke 0x2000 0xFF (code 0x0000 [0x34]) with h := 0x20, l := 0x00, flags := flagsOfByte 0x03 } (fun t => (flagByte t.flags, t.pc, memRead 0x2000 t)) =
      some (0x57, 0x0001, 0x00) := by decide

theorem test_V43_8_dcr_m_0x80 :
    look { poke 0x2000 0x80 (code 0x0000 [0x35]) with h := 0x20, l := 0x00 } (fun t => (flagByte t.flags, t.pc, memRead 0x2000 t)) =
      some (0x12, 0x0001, 0x7F) := by decide

theorem test_V43_10_inx_sp_0xffff_wraps_flags_unchanged :
    look { code 0x0000 [0x33] with sp := 0xFFFF } (fun t => (t.sp, flagByte t.flags, t.pc)) =
      some (0x0000, 0x02, 0x0001) := by decide

theorem test_V43_11_inx_h_0xffff_z_not_set :
    look { code 0x0000 [0x23] with h := 0xFF, l := 0xFF } (fun t => (t.h, t.l, flagByte t.flags, t.pc)) =
      some (0x00, 0x00, 0x02, 0x0001) := by decide

theorem test_V43_12_dcx_b_0x0000 :
    look (code 0x0000 [0x0B]) (fun t => (t.b, t.c, flagByte t.flags, t.pc)) =
      some (0xFF, 0xFF, 0x02, 0x0001) := by decide

theorem test_V43_14_dad_b_carry :
    look { code 0x0000 [0x09] with h := 0xFF, l := 0xFF, b := 0x00, c := 0x01 } (fun t => (t.h, t.l, flagByte t.flags, t.pc)) =
      some (0x00, 0x00, 0x03, 0x0001) := by decide

theorem test_V43_15_dad_d_no_carry_clears_cy :
    look { code 0x0000 [0x19] with h := 0x12, l := 0x34, d := 0x11, e := 0x11, flags := flagsOfByte 0x03 } (fun t => (t.h, t.l, flagByte t.flags, t.pc)) =
      some (0x23, 0x45, 0x02, 0x0001) := by decide

theorem test_V43_17_dad_sp :
    look { code 0x0000 [0x39] with h := 0x00, l := 0x10, sp := 0xFFF0 } (fun t => (t.l, flagByte t.flags, t.pc)) =
      some (0x00, 0x03, 0x0001) := by decide

theorem test_V44_1_rlc :
    look { code 0x0000 [0x07] with a := 0xF2 } (fun t => (t.a, flagByte t.flags, t.pc)) =
      some (0xE5, 0x03, 0x0001) := by decide

theorem test_V44_4_rrc_0x01 :
    look { code 0x0000 [0x0F] with a := 0x01 } (fun t => (t.a, flagByte t.flags, t.pc)) =
      some (0x80, 0x03, 0x0001) := by decide

theorem test_V44_5_ral :
    look { code 0x0000 [0x17] with a := 0xB5 } (fun t => (t.a, flagByte t.flags, t.pc)) =
      some (0x6A, 0x03, 0x0001) := by decide

theorem test_V44_6_ral_with_cy_1 :
    look { code 0x0000 [0x17] with a := 0x00, flags := flagsOfByte 0x03 } (fun t => (t.a, flagByte t.flags, t.pc)) =
      some (0x01, 0x02, 0x0001) := by decide

theorem test_V44_7_rar_with_cy_1 :
    look { code 0x0000 [0x1F] with a := 0x6A, flags := flagsOfByte 0x03 } (fun t => (t.a, flagByte t.flags, t.pc)) =
      some (0xB5, 0x02, 0x0001) := by decide

theorem test_V44_16_daa_a_0x9a_ac_0_cy :
    look { code 0x0000 [0x27] with a := 0x9A } (fun t => (t.a, flagByte t.flags, t.pc)) =
      some (0x00, 0x57, 0x0001) := by decide

theorem test_V44_18_daa_a_0x99_ac_1_cy :
    look { code 0x0000 [0x27] with a := 0x99, flags := flagsOfByte 0x12 } (fun t => (t.a, flagByte t.flags, t.pc)) =
      some (0x9F, 0x96, 0x0001) := by decide

theorem test_V44_23_cma_flags_unchanged :
    look { code 0x0000 [0x2F] with a := 0x51, flags := flagsOfByte 0x57 } (fun t => (t.a, flagByte t.flags, t.pc)) =
      some (0xAE, 0x57, 0x0001) := by decide

theorem test_V44_24_stc :
    look (code 0x0000 [0x37]) (fun t => (flagByte t.flags, t.pc)) =
      some (0x03, 0x0001) := by decide

theorem test_V44_26_cmc_with_cy_0 :
    look (code 0x0000 [0x3F]) (fun t => (flagByte t.flags, t.pc)) =
      some (0x03, 0x0001) := by decide

theorem test_V45_3_jmp_at_0xfffe_high_byte_of :
    look (poke 0x0000 0x12 (code 0xFFFE [0xC3, 0x34])) (fun t => (flagByte t.flags, t.pc)) =
      some (0x02, 0x1234) := by decide

theorem test_V45_4_jnz_with_z_0 :
    look (code 0x0100 [0xC2, 0x00, 0x20]) (fun t => (flagByte t.flags, t.pc)) =
      some (0x02, 0x2000) := by decide

theorem test_V45_5_jnz_with_z_1 :
    look { code 0x0100 [0xC2, 0x00, 0x20] with flags := flagsOfByte 0x42 } (fun t => (flagByte t.flags, t.pc)) =
      some (0x42, 0x0103) := by decide

theorem test_V45_9_jnc_with_cy_1 :
    look { code 0x0100 [0xD2, 0x00, 0x20] with flags := flagsOfByte 0x03 } (fun t => (flagByte t.flags, t.pc)) =
      some (0x03, 0x0103) := by decide

theorem test_V45_11_jc_with_cy_1 :
    look { code 0x0100 [0xDA, 0x00, 0x20] with flags := flagsOfByte 0x03 } (fun t => (flagByte t.flags, t.pc)) =
      some (0x03, 0x2000) := by decide

theorem test_V45_13_jpo_with_p_1 :
    look { code 0x0100 [0xE2, 0x00, 0x20] with flags := flagsOfByte 0x06 } (fun t => (flagByte t.flags, t.pc)) =
      some (0x06, 0x0103) := by decide

theorem test_V45_15_jpe_with_p_1 :
    look { code 0x0100 [0xEA, 0x00, 0x20] with flags := flagsOfByte 0x06 } (fun t => (flagByte t.flags, t.pc)) =
      some (0x06, 0x2000) := by decide

theorem test_V45_17_jp_with_s_1 :
    look { code 0x0100 [0xF2, 0x00, 0x20] with flags := flagsOfByte 0x82 } (fun t => (flagByte t.flags, t.pc)) =
      some (0x82, 0x0103) := by decide

theorem test_V45_19_jm_with_s_1 :
    look { code 0x0100 [0xFA, 0x00, 0x20] with flags := flagsOfByte 0x82 } (fun t => (flagByte t.flags, t.pc)) =
      some (0x82, 0x2000) := by decide

theorem test_V45_21_call_with_sp_0x0000_stack_wraps :
    look (code 0x0100 [0xCD, 0x00, 0x30]) (fun t => (t.sp, flagByte t.flags, t.pc, memRead 0xFFFE t, memRead 0xFFFF t)) =
      some (0xFFFE, 0x02, 0x3000, 0x03, 0x01) := by decide

theorem test_V45_22_call_at_0xfffd_return_address_0x0000 :
    look { code 0xFFFD [0xCD, 0x00, 0x30] with sp := 0x2000 } (fun t => (t.sp, flagByte t.flags, t.pc)) =
      some (0x1FFE, 0x02, 0x3000) := by decide

theorem test_V45_23_cnz_with_z_0 :
    look { code 0x0100 [0xC4, 0x00, 0x30] with sp := 0x2000 } (fun t => (t.sp, flagByte t.flags, t.pc, memRead 0x1FFE t, memRead 0x1FFF t)) =
      some (0x1FFE, 0x02, 0x3000, 0x03, 0x01) := by decide

theorem test_V45_24_cnz_with_z_1 :
    look { code 0x0100 [0xC4, 0x00, 0x30] with sp := 0x2000, flags := flagsOfByte 0x42 } (fun t => (t.sp, flagByte t.flags, t.pc)) =
      some (0x2000, 0x42, 0x0103) := by decide

theorem test_V45_28_cnc_with_cy_1 :
    look { code 0x0100 [0xD4, 0x00, 0x30] with sp := 0x2000, flags := flagsOfByte 0x03 } (fun t => (t.sp, flagByte t.flags, t.pc)) =
      some (0x2000, 0x03, 0x0103) := by decide

theorem test_V45_29_cc_with_cy_1 :
    look { code 0x0100 [0xDC, 0x00, 0x30] with sp := 0x2000, flags := flagsOfByte 0x03 } (fun t => (t.sp, flagByte t.flags, t.pc, memRead 0x1FFE t, memRead 0x1FFF t)) =
      some (0x1FFE, 0x03, 0x3000, 0x03, 0x01) := by decide

theorem test_V45_32_cpo_with_p_1 :
    look { code 0x0100 [0xE4, 0x00, 0x30] with sp := 0x2000, flags := flagsOfByte 0x06 } (fun t => (t.sp, flagByte t.flags, t.pc)) =
      some (0x2000, 0x06, 0x0103) := by decide

theorem test_V45_33_cpe_with_p_1 :
    look { code 0x0100 [0xEC, 0x00, 0x30] with sp := 0x2000, flags := flagsOfByte 0x06 } (fun t => (t.sp, flagByte t.flags, t.pc, memRead 0x1FFE t, memRead 0x1FFF t)) =
      some (0x1FFE, 0x06, 0x3000, 0x03, 0x01) := by decide

theorem test_V45_36_cp_with_s_1 :
    look { code 0x0100 [0xF4, 0x00, 0x30] with sp := 0x2000, flags := flagsOfByte 0x82 } (fun t => (t.sp, flagByte t.flags, t.pc)) =
      some (0x2000, 0x82, 0x0103) := by decide

theorem test_V45_37_cm_with_s_1 :
    look { code 0x0100 [0xFC, 0x00, 0x30] with sp := 0x2000, flags := flagsOfByte 0x82 } (fun t => (t.sp, flagByte t.flags, t.pc, memRead 0x1FFE t, memRead 0x1FFF t)) =
      some (0x1FFE, 0x82, 0x3000, 0x03, 0x01) := by decide

theorem test_V45_40_ret_with_sp_0xffff :
    look { poke 0x0000 0x12 (poke 0xFFFF 0x34 (code 0x0100 [0xC9])) with sp := 0xFFFF } (fun t => (t.sp, flagByte t.flags, t.pc)) =
      some (0x0001, 0x02, 0x1234) := by decide

theorem test_V45_41_rnz_with_z_0 :
    look { poke 0x00FF 0x00 (poke 0x00FE 0x03 (code 0x0010 [0xC0])) with sp := 0x00FE } (fun t => (t.sp, flagByte t.flags, t.pc)) =
      some (0x0100, 0x02, 0x0003) := by decide

theorem test_V45_42_rnz_with_z_1 :
    look { poke 0x00FF 0x00 (poke 0x00FE 0x03 (code 0x0010 [0xC0])) with sp := 0x00FE, flags := flagsOfByte 0x42 } (fun t => (t.sp, flagByte t.flags, t.pc)) =
      some (0x00FE, 0x42, 0x0011) := by decide

theorem test_V45_46_rnc_with_cy_1 :
    look { poke 0x00FF 0x00 (poke 0x00FE 0x03 (code 0x0010 [0xD0])) with sp := 0x00FE, flags := flagsOfByte 0x03 } (fun t => (t.sp, flagByte t.flags, t.pc)) =
      some (0x00FE, 0x03, 0x0011) := by decide

theorem test_V45_47_rc_with_cy_1 :
    look { poke 0x00FF 0x00 (poke 0x00FE 0x03 (code 0x0010 [0xD8])) with sp := 0x00FE, flags := flagsOfByte 0x03 } (fun t => (t.sp, flagByte t.flags, t.pc)) =
      some (0x0100, 0x03, 0x0003) := by decide

theorem test_V45_50_rpo_with_p_1 :
    look { poke 0x00FF 0x00 (poke 0x00FE 0x03 (code 0x0010 [0xE0])) with sp := 0x00FE, flags := flagsOfByte 0x06 } (fun t => (t.sp, flagByte t.flags, t.pc)) =
      some (0x00FE, 0x06, 0x0011) := by decide

theorem test_V45_51_rpe_with_p_1 :
    look { poke 0x00FF 0x00 (poke 0x00FE 0x03 (code 0x0010 [0xE8])) with sp := 0x00FE, flags := flagsOfByte 0x06 } (fun t => (t.sp, flagByte t.flags, t.pc)) =
      some (0x0100, 0x06, 0x0003) := by decide

theorem test_V45_54_rp_with_s_1 :
    look { poke 0x00FF 0x00 (poke 0x00FE 0x03 (code 0x0010 [0xF0])) with sp := 0x00FE, flags := flagsOfByte 0x82 } (fun t => (t.sp, flagByte t.flags, t.pc)) =
      some (0x00FE, 0x82, 0x0011) := by decide

theorem test_V45_55_rm_with_s_1 :
    look { poke 0x00FF 0x00 (poke 0x00FE 0x03 (code 0x0010 [0xF8])) with sp := 0x00FE, flags := flagsOfByte 0x82 } (fun t => (t.sp, flagByte t.flags, t.pc)) =
      some (0x0100, 0x82, 0x0003) := by decide

theorem test_V45_57_rst_0 :
    look { code 0x1234 [0xC7] with sp := 0x2000 } (fun t => (t.sp, flagByte t.flags, t.pc, memRead 0x1FFE t, memRead 0x1FFF t)) =
      some (0x1FFE, 0x02, 0x0000, 0x35, 0x12) := by decide

theorem test_V45_64_rst_7 :
    look { code 0x1234 [0xFF] with sp := 0x2000 } (fun t => (t.sp, flagByte t.flags, t.pc, memRead 0x1FFE t, memRead 0x1FFF t)) =
      some (0x1FFE, 0x02, 0x0038, 0x35, 0x12) := by decide

theorem test_V45_65_pchl :
    look { code 0x0000 [0xE9] with h := 0x40, l := 0x00 } (fun t => (flagByte t.flags, t.pc)) =
      some (0x02, 0x4000) := by decide

theorem test_V46_2_push_d_with_sp_0x0000 :
    look { code 0x0000 [0xD5] with d := 0xAB, e := 0xCD } (fun t => (t.sp, flagByte t.flags, t.pc, memRead 0xFFFE t, memRead 0xFFFF t)) =
      some (0xFFFE, 0x02, 0x0001, 0xCD, 0xAB) := by decide

theorem test_V46_3_push_h_with_sp_0x0001 :
    look { code 0x0000 [0xE5] with h := 0x56, l := 0x78, sp := 0x0001 } (fun t => (t.sp, flagByte t.flags, t.pc, memRead 0x0000 t, memRead 0xFFFF t)) =
      some (0xFFFF, 0x02, 0x0001, 0x56, 0x78) := by decide

theorem test_V46_4_push_psw :
    look { code 0x0000 [0xF5] with a := 0x42, sp := 0x2000, flags := flagsOfByte 0x97 } (fun t => (t.sp, flagByte t.flags, t.pc, memRead 0x1FFE t, memRead 0x1FFF t)) =
      some (0x1FFE, 0x97, 0x0001, 0x97, 0x42) := by decide

theorem test_V46_7_pop_b_with_sp_0xffff :
    look { poke 0x0000 0x12 (poke 0xFFFF 0x34 (code 0x0100 [0xC1])) with sp := 0xFFFF } (fun t => (t.b, t.c, t.sp, flagByte t.flags, t.pc)) =
      some (0x12, 0x34, 0x0001, 0x02, 0x0101) := by decide

theorem test_V46_9_pop_psw_0xff_flags :
    look { poke 0x1FFF 0x00 (poke 0x1FFE 0xFF (code 0x0000 [0xF1])) with sp := 0x1FFE } (fun t => (t.sp, flagByte t.flags, t.pc)) =
      some (0x2000, 0xD7, 0x0001) := by decide

theorem test_V46_10_pop_psw_0x28_flags :
    look { poke 0x1FFF 0x80 (poke 0x1FFE 0x28 (code 0x0000 [0xF1])) with sp := 0x1FFE, flags := flagsOfByte 0xD7 } (fun t => (t.a, t.sp, flagByte t.flags, t.pc)) =
      some (0x80, 0x2000, 0x02, 0x0001) := by decide

theorem test_V46_12_xchg :
    look { code 0x0000 [0xEB] with d := 0x11, e := 0x11, h := 0x22, l := 0x22 } (fun t => (t.d, t.e, t.h, t.l, flagByte t.flags, t.pc)) =
      some (0x22, 0x22, 0x11, 0x11, 0x02, 0x0001) := by decide

theorem test_V46_14_xthl_with_sp_0xffff :
    look { poke 0x0000 0xAB (poke 0xFFFF 0xCD (code 0x0100 [0xE3])) with sp := 0xFFFF, h := 0x12, l := 0x34 } (fun t => (t.h, t.l, flagByte t.flags, t.pc, memRead 0x0000 t, memRead 0xFFFF t)) =
      some (0xAB, 0xCD, 0x02, 0x0101, 0x12, 0x34) := by decide

theorem test_V46_15_sphl :
    look { code 0x0000 [0xF9] with h := 0x50, l := 0x00 } (fun t => (t.sp, flagByte t.flags, t.pc)) =
      some (0x5000, 0x02, 0x0001) := by decide

theorem test_V47_1_in_no_device :
    look { code 0x0000 [0xDB, 0x10] with a := 0x55 } (fun t => (t.a, flagByte t.flags, t.pc, t.ioTrace)) =
      some (0x00, 0x02, 0x0002, [.input 0x10 0x00]) := by decide

theorem test_V47_3_out :
    look { code 0x0000 [0xD3, 0x01] with a := 0x41 } (fun t => (t.a, flagByte t.flags, t.pc, t.ioTrace)) =
      some (0x41, 0x02, 0x0002, [.output 0x01 0x41]) := by decide

theorem test_V47_11_nop_alias_0x38 :
    look { code 0x0100 [0x38] with a := 0x12, flags := flagsOfByte 0xD7 } (fun t => (t.a, flagByte t.flags, t.pc)) =
      some (0x12, 0xD7, 0x0101) := by decide

theorem test_V47_14_hlt_at_0xffff :
    look (code 0xFFFF [0x76]) (fun t => (flagByte t.flags, t.pc, t.halted)) =
      some (0x02, 0x0000, true) := by decide

theorem test_V47_15_0xcb_jmp_alias :
    look (code 0x0000 [0xCB, 0x34, 0x12]) (fun t => (flagByte t.flags, t.pc)) =
      some (0x02, 0x1234) := by decide

theorem test_V47_16_0xd9_ret_alias :
    look { poke 0x00FF 0x00 (poke 0x00FE 0x03 (code 0x0010 [0xD9])) with sp := 0x00FE } (fun t => (t.sp, flagByte t.flags, t.pc)) =
      some (0x0100, 0x02, 0x0003) := by decide

theorem test_V47_17_0xdd_call_alias :
    look { code 0x0100 [0xDD, 0x00, 0x20] with sp := 0x3000 } (fun t => (t.sp, flagByte t.flags, t.pc, memRead 0x2FFE t, memRead 0x2FFF t)) =
      some (0x2FFE, 0x02, 0x2000, 0x03, 0x01) := by decide

theorem test_V47_20_ei :
    look { code 0x0200 [0xFB] with flags := flagsOfByte 0x57 } (fun t => (flagByte t.flags, t.pc)) =
      some (0x57, 0x0201) := by decide

theorem test_V20_1_nop_at_0xffff_pc_wraps :
    look (code 0xFFFF [0x00]) (fun t => (flagByte t.flags, t.pc)) =
      some (0x02, 0x0000) := by decide

theorem test_V20_3_push_over_the_call_s_own :
    look { code 0x00FD [0xCD, 0x00, 0x30] with sp := 0x0100 } (fun t => (t.sp, flagByte t.flags, t.pc, memRead 0x00FF t)) =
      some (0x00FE, 0x02, 0x3000, 0x01) := by decide

theorem test_V47_13_halted_core_stays : look (code 0x0005 [0x76, 0x3E, 0x99]) (fun t => (look t (fun u => (u.a, u.pc)))) =
    some (some (0x00, 0x0006)) := by decide

/-- An IN with a device attached (R75): one draw is counted, one event added, and the value read is the one in the event. -/
theorem test_in_with_a_device : look { code 0x0000 [0xDB, 0x10] with io := .device 3 } (fun t => (t.ioDraws, t.ioTrace.length, t.pc)) =
    some (1, 1, 0x0002) := rfl

/-! ## Truncated and empty byte lists -/

theorem test_decode_of_no_bytes : decode [] = .error .noOpcode := by decide
theorem test_decode_of_a_truncated_instruction :
    decode [0x3E] = .error (.truncated 0x3E 2) ∧ decode [0xC3, 0x00] = .error (.truncated 0xC3 3) := by decide
theorem test_decode_leaves_the_bytes_after : decode [0x80, 0x76] = .ok (.addB, [0x76]) := by decide

/-- The other policy (R317). -/
theorem test_nop_policy : decodeOpcodeUnder .nopForm 0xCB 0x34 0x12 = .nop ∧ formatUnder .nopForm 0xCB = .f1 := by decide

/-! ## The interface of the fetch -/

theorem test_with_fetch_word : look (State.reset.withFetchWord 24 0x123401) (fun t => (t.b, t.c, t.pc)) =
    some (0x12, 0x34, 0x0003) := by decide

/-! ## The host's operations (spec/95_test_vectors.md part 4) -/

theorem test_H1_flags_written_all_ones : readRegister .flags (writeRegister .flags 0xFF State.reset) = 0xD7 := by decide
theorem test_H2_flags_written_zero : readRegister .flags (writeRegister .flags 0x00 State.reset) = 0x02 := by decide
theorem test_H3_psw : readRegister .psw (writeRegister .psw 0x1234 State.reset) = 0x1216 := by decide
theorem test_H4_pair_masked : readRegister .b (writeRegister .bc 0x1ABCD State.reset) = 0xAB := by decide
theorem test_H5_register_masked : readRegister .a (writeRegister .a 0x1FF State.reset) = 0xFF := by decide
theorem test_H6_set_flag : readRegister .flags (setFlag .cy true (setFlag .z true State.reset)) = 0x43 := by decide
theorem test_H9_load_wraps : peek 0x0000 (load 0xFFFE [0x01, 0x02, 0x03] State.reset) = 0x03 := by decide
theorem test_H10_poke_masks : peek 0x0005 (poke 0x10005 0x1AB State.reset) = 0xAB := by decide
theorem test_H11_pc_written_while_halted :
    look (code 0x0000 [0x76]) (fun t => look (writeRegister .pc 0x0000 t) (fun u => (u.pc, u.halted))) =
      some (some (0x0000, true)) := by decide
theorem test_H12_reset_keeps_the_device :
    (hostReset { attachIo 7 State.reset with halted := true }).io = .device 7 ∧
    (hostReset { attachIo 7 State.reset with halted := true }).halted = false := by decide
theorem test_H13_poked_byte_is_fetched : look (poke 0x0000 0x3C (code 0x0000 [0x00])) (fun t => t.a) = some 0x01 := by decide
/-- A negative number is taken mod 2^8 (R367). -/
theorem test_negative_value_masked : readRegister .a (writeRegister .a (-1) State.reset) = 0xFF := by decide

/-! ## The assembler (30_encoding.md R104, R105) -/

theorem test_text : (Instr.mviA 0x05).text = "MVI A,05h" ∧ (Instr.lxiB 0xF00F).text = "LXI B,0F00Fh" := by decide
theorem test_alias_text_is_marked : (Instr.jmpAlias 0x1234).text = "JMP* 1234h" := by decide
theorem test_assembler_emits_documented_opcodes :
    assemble (.callAliasDD 0x1234) = [0xCD, 0x34, 0x12] ∧ assemble .nopAlias38 = [0x00] := by decide

/-! ## Witnesses: concrete states and operands that meet the hypotheses of the statements

`mid` is a running core with something in memory, SP at the edge of the address space, and HL at its end. -/

/-- Memory holds 0x12 at 0xFFFF, 0x34 at 0x0000 and an ADD B at 0x0100, where PC is. -/
def mid : State :=
  { State.reset with
    mem := [(0x0000, 0x34), (0x0100, 0x80), (0xFFFF, 0x12)], pc := 0x0100, sp := 0x0000, h := 0xFF, l := 0xFF, a := 0x38
    b := 0x45 }

theorem witness_inv : Inv State.reset ∧ Inv mid := by decide

/-- O3: a state with the invariant from which a step answers next, and the step stores (an XTHL over the wrap). -/
theorem witness_step_keeps_the_invariant :
    ∃ s t, Inv s ∧ step s = .next t ∧ t.mem ≠ s.mem :=
  ⟨{ code 0x0100 [0xE3] with sp := 0xFFFF, h := 0x12, l := 0x34 }, _, by decide, rfl, by decide⟩

/-- O4: also a run. -/
theorem witness_host_operations : ∃ s t k, Inv s ∧ run 2 s = .next (t, k) ∧ k = 2 :=
  ⟨code 0x0000 [0x37, 0x76], _, _, by decide, rfl, by decide⟩

/-- O7: an address beside the one written, at both ends of memory; a poke and a load beside an address. -/
theorem witness_read_after_write :
    Inv mid ∧ (0x0000 : Word) ≠ 0xFFFF ∧ (0x0003 : Word) ≠ maskWord 0x10004 ∧
    ∀ k < ([1, 2] : List Int).length, (0x0001 : Word) ≠ maskWord (0xFFFF + k) := by decide +kernel

/-- O8: the word at 0xFFFF, whose high byte is at 0x0000. -/
theorem witness_words_in_memory : Inv mid ∧ read16 0xFFFF mid = 0x3412 := by decide

/-- O9. -/
theorem witness_halted : ({ mid with halted := true } : State).halted = true := by decide

/-- O10, O14: a running state whose bytes at PC decode, with a step that answers next and is no taken transfer. -/
theorem witness_step_runs_the_decoded_instruction :
    mid.halted = false ∧ decode (bytesFrom mid.pc mid) = .ok (.addB, [0x00, 0x00]) ∧
    Instr.addB.transferTaken mid.flags = false ∧ ∃ t, step mid = .next t := by
  refine ⟨by decide, by decide, by decide, _, rfl⟩

/-- O10, O14 at the end of memory: an untaken JNZ whose operand bytes wrap. -/
theorem witness_step_at_the_end_of_memory :
    ∃ s rest, s.halted = false ∧ decode (bytesFrom s.pc s) = .ok (.jnz 0x3456, rest) ∧
      (Instr.jnz 0x3456).transferTaken s.flags = false ∧ s.pc = 0xFFFE :=
  ⟨{ code 0xFFFE [0xC2, 0x56, 0x34] with flags := ⟨false, true, false, false, false⟩ }, [], by decide⟩

/-- O11. -/
theorem witness_step_runs_the_bytes_of_an_instruction :
    ∃ (s : State) (i : Instr), s.halted = false ∧
      ∀ (k : Nat) (v : Byte), (encode i)[k]? = some v → memRead (s.pc + BitVec.ofNat 16 k) s = v := by
  refine ⟨code 0xFFFE [0xC3, 0x56, 0x34], .jmp 0x3456, by decide, fun k v h => ?_⟩
  match k, h with
  | 0, h => exact Option.some.inj h
  | 1, h => exact Option.some.inj h
  | 2, h => exact Option.some.inj h

/-- O13: a step that halts, and one that does not. -/
theorem witness_only_hlt_halts :
    look (code 0x0000 [0x76]) (fun t => t.halted) = some true ∧ look mid (fun t => t.halted) = some false := by decide

/-- O15, O16, O18: an instruction that answers next, with a register, a flag and the trace outside what it writes. -/
theorem witness_frames :
    (∃ t, exec .inrB mid = .next t) ∧ Reg.a ∉ Instr.inrB.regsWritten ∧ Instr.inrB.spWritten mid.flags = false ∧
    FlagName.cy ∉ Instr.inrB.flagsWritten ∧ (∀ v, Instr.inrB ≠ .inPort v ∧ Instr.inrB ≠ .outPort v) ∧
    ((Instr.inPort 0x00) ≠ .outPort 0x00 ∧ mid.io = .defaultStubs) := by
  refine ⟨⟨_, rfl⟩, by decide, by decide, by decide, fun v => ⟨by simp, by simp⟩, by simp, by decide⟩

/-- O15: a conditional call that is not taken leaves SP. -/
theorem witness_untaken_call_leaves_sp : (Instr.cz 0x1234).spWritten mid.flags = false := by decide

/-- O17: addresses beside those stored to, for a push with SP at 0, a store at 0xFFFF and an instruction that stores nothing. -/
theorem witness_memory_frame :
    Inv mid ∧ (0x0000 : Word) ∉ Instr.pushB.storedAddrs mid ∧ (0xFFFD : Word) ∉ Instr.pushB.storedAddrs mid ∧
    (0x0000 : Word) ∉ (Instr.mviM 0x01).storedAddrs mid ∧ (0xFFFF : Word) ∉ Instr.addM.storedAddrs mid ∧
    Instr.pushB.storedAddrs mid = [0xFFFF, 0xFFFE] := by decide

/-- O19: another memory that agrees where INR M reads, both memories in their form; INR M stores where it read. -/
theorem witness_memory_read :
    (∀ a ∈ Instr.inrM.loadedAddrs mid, memRead a { mid with mem := [(0xFFFF, 0x12)] } = memRead a mid) ∧
    mid.mem ≠ [(0xFFFF, 0x12)] ∧ Inv mid ∧ Inv { mid with mem := [(0xFFFF, 0x12)] } ∧
    0xFFFF ∈ Instr.inrM.storedAddrs mid := by
  have h : Instr.inrM.loadedAddrs mid = [0xFFFF] := by decide
  refine ⟨fun a ha => ?_, by simp [mid], by decide, by decide, by decide⟩
  rw [h] at ha
  obtain rfl : a = 0xFFFF := by simpa using ha
  decide

/-- O20: other flags that agree where ADC B reads. -/
theorem witness_flags_read :
    (∀ k ∈ Instr.adcB.flagsRead, getFlag k ⟨true, true, true, true, false⟩ = getFlag k mid.flags) ∧
    Instr.adcB.flagsRead = [.cy] ∧ mid.flags ≠ ⟨true, true, true, true, false⟩ := by decide

/-- O21, O54: no device, and a device. -/
theorem witness_io : mid.io = .defaultStubs ∧ (attachIo 3 mid).io = .device 3 := by decide

/-- O22, O23. -/
theorem witness_encoding :
    (Instr.shld 0xFFFF).wellFormed = true ∧ decode [0x22, 0xFF, 0xFF, 0x76] = .ok (.shld 0xFFFF, [0x76]) := by decide

/-- O24: a list that is just long enough, and one that is a byte short. -/
theorem witness_lengths :
    (formatOf 0x01).length ≤ ([0x34, 0x12] : List Byte).length + 1 ∧
    ([0x34] : List Byte).length + 1 < (formatOf 0x01).length := by decide

/-- O26: an opcode byte beside the five. -/
theorem witness_documented_opcode : (0xC3 : Byte) ∉ ([0xCB, 0xD9, 0xDD, 0xED, 0xFD] : List Byte) := by decide

/-- O30, O31, O39, O47, O49, O50: memory in its form with HL, a16 or SP at the edges, where stores wrap; O47 with both values of
a condition. -/
theorem witness_stores :
    Inv { mid with sp := 0x0001 } ∧ Inv { mid with sp := 0xFFFF } ∧ mid.sp - 2 = 0xFFFE ∧ hl mid = 0xFFFF ∧
    ∃ s, Inv s ∧ s.flags.z = true :=
  ⟨by decide, by decide, by decide, by decide, { mid with flags := ⟨false, true, false, false, false⟩ }, by decide, rfl⟩

/-- O44: decimal digits in A, in every register that ADD takes, and in the byte at HL; the extremes. -/
theorem witness_bcd :
    ∃ s : State, IsBcd s.a ∧ IsBcd s.b ∧ IsBcd s.c ∧ IsBcd s.d ∧ IsBcd s.e ∧ IsBcd s.h ∧ IsBcd s.l ∧
      IsBcd (memRead (cat s.h s.l) s) ∧ IsBcd 0x99 ∧ IsBcd 0x00 := by
  refine ⟨{ code 0x1234 [0x61] with a := 0x99, b := 0x45, c := 0x61, h := 0x12, l := 0x34 }, ?_⟩
  refine ⟨?_, ?_, ?_, ?_, ?_, ?_, ?_, ?_, ?_, ?_⟩ <;> exact ⟨by decide, by decide⟩

/-- O52: between PUSH B and POP B stand PUSH PSW, LXI B,0000h and POP PSW, as in the spec's E7: the bytes below SP and the
registers differ, SP and the pushed word do not. -/
theorem witness_push_pop :
    Inv mid ∧ ∃ t w v : State, exec .pushB mid = .next t ∧ exec .pushPsw t = .next w ∧
      exec .popPsw { w with b := 0x00, c := 0x00 } = .next v ∧ TopWordKept t v ∧ v.mem ≠ t.mem ∧ v.b ≠ t.b :=
  ⟨by decide, _, _, _, rfl, rfl, rfl, ⟨by decide, by decide, by decide⟩, by decide, by decide⟩

/-- O57: a load that wraps, and an address beside it. -/
theorem witness_load :
    Inv mid ∧ ([1, 2, 3] : List Int).length ≤ 65536 ∧ ([1, 2, 3] : List Int)[2]? = some 3 ∧
    (0xFFFE : Word) ≠ BitVec.ofInt 16 0xFFFF ∧
    ∀ k < ([1, 2, 3] : List Int).length, (0xFFFE : Word) ≠ BitVec.ofInt 16 (0xFFFF + k) := by decide +kernel

/-- O58: another flag name. -/
theorem witness_flag_names : FlagName.z ≠ FlagName.cy := by decide

/-- O59: runs that retire, runs of a halted core, and a run that ends before its budget. -/
theorem witness_runs :
    ∃ s t u, s.halted = false ∧ step s = .next t ∧ run 5 t = .next (u, 1) ∧ u.halted = true ∧ run 3 u = .next (u, 0) :=
  ⟨code 0x0000 [0x00, 0x76], _, _, by decide, rfl, rfl, by decide, rfl⟩

/-- O60: a documented opcode byte, and one that is not. -/
theorem witness_documented_instruction :
    (Instr.jmp 0x1234).opcode ∉ aliasOpcodes ∧ (Instr.jmpAlias 0x1234).opcode ∈ aliasOpcodes := by decide

end Sys2Proof.Tests
end

section
/-! SUPPORT. What an instruction does, said once: each instruction is one of 33 operations with operands, and a proof
about every instruction is a case split over these. The tables of what an instruction touches are those of its
operation. -/

namespace Sys2Proof.Machine

/-! ## The operations -/

/-- Where the byte comes from that an instruction moves or computes with (R94, R143, R147, R151). -/
inductive Source where
  | reg (r : Reg)
  | m
  | indexed (p : IndexPair)
  | direct (w : Word)
  | immediate (v : Byte)

/-- The byte of a source. -/
def Source.value (x : Source) (s : State) : Byte :=
  match x with
  | .reg r => regRead r s
  | .m => memRead (hl s) s
  | .indexed p => memRead (getIndexPair p s) s
  | .direct w => memRead w s
  | .immediate v => v

/-- What an instruction does, its operands named. The condition of a transfer is `none` where it is always taken. -/
inductive Operation where
  | skip
  | halt
  | move (dst : Operand8) (src : Source)
  | storeIndexed (p : IndexPair)
  | storeDirect (w : Word)
  | storeHl (w : Word)
  | loadHl (w : Word)
  | alu (op : AluOp) (src : Source)
  | inc (x : Operand8)
  | dec (x : Operand8)
  | setPair (p : RegPair) (w : Word)
  | incPair (p : RegPair)
  | decPair (p : RegPair)
  | addPair (p : RegPair)
  | rlc
  | rrc
  | ral
  | rar
  | daa
  | cma
  | stc
  | cmc
  | jump (ccc : Option Cond) (w : Word)
  | call (ccc : Option Cond) (w : Word)
  | ret (ccc : Option Cond)
  | jumpHl
  | push (p : StackPair)
  | pop (p : StackPair)
  | xchg
  | xthl
  | sphl
  | input (port : Byte)
  | output (port : Byte)

/-- The ALU operation of a name, on A and a byte (R99). -/
def aluApply : AluOp → Byte → State → State
  | .add => aluAdd
  | .adc => aluAdc
  | .sub => aluSub
  | .sbb => aluSbb
  | .ana => aluAna
  | .xra => aluXra
  | .ora => aluOra
  | .cmp => aluCmp

/-- Whether a transfer is taken: always, or by its condition (R96). -/
def taken : Option Cond → Flags → Bool
  | none, _ => true
  | some ccc, f => condHolds ccc f

/-- An operation as the model's own functions compute it. -/
def Operation.run (o : Operation) (s : State) : State :=
  match o with
  | .skip => s
  | .halt => { s with halted := true }
  | .move dst src => writeR8 dst (src.value s) s
  | .storeIndexed p => memWrite (getIndexPair p s) s.a s
  | .storeDirect w => memWrite w s.a s
  | .storeHl w => write16 w (hl s) s
  | .loadHl w => setHl (read16 w s) s
  | .alu op src => aluApply op (src.value s) s
  | .inc x => incOperand x s
  | .dec x => decOperand x s
  | .setPair p w => setRP p w s
  | .incPair p => Machine.incPair p s
  | .decPair p => Machine.decPair p s
  | .addPair p => addPairToHl p s
  | .rlc => rotateLeft (s.a.getLsbD 7) s
  | .rrc => rotateRight (s.a.getLsbD 0) s
  | .ral => rotateLeft s.flags.cy s
  | .rar => rotateRight s.flags.cy s
  | .daa => decimalAdjust s
  | .cma => { s with a := ~~~s.a }
  | .stc => setCy true s
  | .cmc => setCy (!s.flags.cy) s
  | .jump ccc w => if taken ccc s.flags then jumpTo w s else s
  | .call ccc w => if taken ccc s.flags then callTo w s else s
  | .ret ccc => if taken ccc s.flags then returnFrom s else s
  | .jumpHl => jumpTo (hl s) s
  | .push p => pushPair p s
  | .pop p => popPair p s
  | .xchg => setHl (de s) (setDe (hl s) s)
  | .xthl => exchangeTop s
  | .sphl => { s with sp := hl s }
  | .input port => regWrite .a (ioValue port s) (ioAfterIn port s)
  | .output port => ioOut port s.a s

/-- The operation of each instruction. -/
def operationOf : Instr → Operation
  | .nop | .nopAlias08 | .nopAlias10 | .nopAlias18 | .nopAlias20 | .nopAlias28 | .nopAlias30 | .nopAlias38
  | .di | .ei => .skip
  | .lxiB w => .setPair .bc w | .lxiD w => .setPair .de w | .lxiH w => .setPair .hl w | .lxiSp w => .setPair .sp w
  | .staxB => .storeIndexed .bc | .staxD => .storeIndexed .de
  | .inxB => .incPair .bc | .inxD => .incPair .de | .inxH => .incPair .hl | .inxSp => .incPair .sp
  | .inrB => .inc (.reg .b) | .inrC => .inc (.reg .c) | .inrD => .inc (.reg .d) | .inrE => .inc (.reg .e)
  | .inrH => .inc (.reg .h) | .inrL => .inc (.reg .l) | .inrM => .inc .m | .inrA => .inc (.reg .a)
  | .dcrB => .dec (.reg .b) | .dcrC => .dec (.reg .c) | .dcrD => .dec (.reg .d) | .dcrE => .dec (.reg .e)
  | .dcrH => .dec (.reg .h) | .dcrL => .dec (.reg .l) | .dcrM => .dec .m | .dcrA => .dec (.reg .a)
  | .mviB v => .move (.reg .b) (.immediate v) | .ldaxB => .move (.reg .a) (.indexed .bc)
  | .mviC v => .move (.reg .c) (.immediate v) | .mviD v => .move (.reg .d) (.immediate v)
  | .ldaxD => .move (.reg .a) (.indexed .de) | .mviE v => .move (.reg .e) (.immediate v)
  | .mviH v => .move (.reg .h) (.immediate v) | .mviL v => .move (.reg .l) (.immediate v)
  | .mviM v => .move .m (.immediate v) | .lda w => .move (.reg .a) (.direct w)
  | .mviA v => .move (.reg .a) (.immediate v)
  | .dadB => .addPair .bc | .dadD => .addPair .de | .dadH => .addPair .hl | .dadSp => .addPair .sp
  | .dcxB => .decPair .bc | .dcxD => .decPair .de | .dcxH => .decPair .hl | .dcxSp => .decPair .sp
  | .movBB => .move (.reg .b) (.reg .b) | .movBC => .move (.reg .b) (.reg .c) | .movBD => .move (.reg .b) (.reg .d)
  | .movBE => .move (.reg .b) (.reg .e) | .movBH => .move (.reg .b) (.reg .h) | .movBL => .move (.reg .b) (.reg .l)
  | .movBM => .move (.reg .b) .m | .movBA => .move (.reg .b) (.reg .a) | .movCB => .move (.reg .c) (.reg .b)
  | .movCC => .move (.reg .c) (.reg .c) | .movCD => .move (.reg .c) (.reg .d) | .movCE => .move (.reg .c) (.reg .e)
  | .movCH => .move (.reg .c) (.reg .h) | .movCL => .move (.reg .c) (.reg .l) | .movCM => .move (.reg .c) .m
  | .movCA => .move (.reg .c) (.reg .a) | .movDB => .move (.reg .d) (.reg .b) | .movDC => .move (.reg .d) (.reg .c)
  | .movDD => .move (.reg .d) (.reg .d) | .movDE => .move (.reg .d) (.reg .e) | .movDH => .move (.reg .d) (.reg .h)
  | .movDL => .move (.reg .d) (.reg .l) | .movDM => .move (.reg .d) .m | .movDA => .move (.reg .d) (.reg .a)
  | .movEB => .move (.reg .e) (.reg .b) | .movEC => .move (.reg .e) (.reg .c) | .movED => .move (.reg .e) (.reg .d)
  | .movEE => .move (.reg .e) (.reg .e) | .movEH => .move (.reg .e) (.reg .h) | .movEL => .move (.reg .e) (.reg .l)
  | .movEM => .move (.reg .e) .m | .movEA => .move (.reg .e) (.reg .a) | .movHB => .move (.reg .h) (.reg .b)
  | .movHC => .move (.reg .h) (.reg .c) | .movHD => .move (.reg .h) (.reg .d) | .movHE => .move (.reg .h) (.reg .e)
  | .movHH => .move (.reg .h) (.reg .h) | .movHL => .move (.reg .h) (.reg .l) | .movHM => .move (.reg .h) .m
  | .movHA => .move (.reg .h) (.reg .a) | .movLB => .move (.reg .l) (.reg .b) | .movLC => .move (.reg .l) (.reg .c)
  | .movLD => .move (.reg .l) (.reg .d) | .movLE => .move (.reg .l) (.reg .e) | .movLH => .move (.reg .l) (.reg .h)
  | .movLL => .move (.reg .l) (.reg .l) | .movLM => .move (.reg .l) .m | .movLA => .move (.reg .l) (.reg .a)
  | .movMB => .move .m (.reg .b) | .movMC => .move .m (.reg .c) | .movMD => .move .m (.reg .d)
  | .movME => .move .m (.reg .e) | .movMH => .move .m (.reg .h) | .movML => .move .m (.reg .l)
  | .movMA => .move .m (.reg .a) | .movAB => .move (.reg .a) (.reg .b) | .movAC => .move (.reg .a) (.reg .c)
  | .movAD => .move (.reg .a) (.reg .d) | .movAE => .move (.reg .a) (.reg .e) | .movAH => .move (.reg .a) (.reg .h)
  | .movAL => .move (.reg .a) (.reg .l) | .movAM => .move (.reg .a) .m | .movAA => .move (.reg .a) (.reg .a)
  | .addB => .alu .add (.reg .b) | .addC => .alu .add (.reg .c) | .addD => .alu .add (.reg .d)
  | .addE => .alu .add (.reg .e) | .addH => .alu .add (.reg .h) | .addL => .alu .add (.reg .l) | .addM => .alu .add .m
  | .addA => .alu .add (.reg .a)
  | .adcB => .alu .adc (.reg .b) | .adcC => .alu .adc (.reg .c) | .adcD => .alu .adc (.reg .d)
  | .adcE => .alu .adc (.reg .e) | .adcH => .alu .adc (.reg .h) | .adcL => .alu .adc (.reg .l) | .adcM => .alu .adc .m
  | .adcA => .alu .adc (.reg .a)
  | .subB => .alu .sub (.reg .b) | .subC => .alu .sub (.reg .c) | .subD => .alu .sub (.reg .d)
  | .subE => .alu .sub (.reg .e) | .subH => .alu .sub (.reg .h) | .subL => .alu .sub (.reg .l) | .subM => .alu .sub .m
  | .subA => .alu .sub (.reg .a)
  | .sbbB => .alu .sbb (.reg .b) | .sbbC => .alu .sbb (.reg .c) | .sbbD => .alu .sbb (.reg .d)
  | .sbbE => .alu .sbb (.reg .e) | .sbbH => .alu .sbb (.reg .h) | .sbbL => .alu .sbb (.reg .l) | .sbbM => .alu .sbb .m
  | .sbbA => .alu .sbb (.reg .a)
  | .anaB => .alu .ana (.reg .b) | .anaC => .alu .ana (.reg .c) | .anaD => .alu .ana (.reg .d)
  | .anaE => .alu .ana (.reg .e) | .anaH => .alu .ana (.reg .h) | .anaL => .alu .ana (.reg .l) | .anaM => .alu .ana .m
  | .anaA => .alu .ana (.reg .a)
  | .xraB => .alu .xra (.reg .b) | .xraC => .alu .xra (.reg .c) | .xraD => .alu .xra (.reg .d)
  | .xraE => .alu .xra (.reg .e) | .xraH => .alu .xra (.reg .h) | .xraL => .alu .xra (.reg .l) | .xraM => .alu .xra .m
  | .xraA => .alu .xra (.reg .a)
  | .oraB => .alu .ora (.reg .b) | .oraC => .alu .ora (.reg .c) | .oraD => .alu .ora (.reg .d)
  | .oraE => .alu .ora (.reg .e) | .oraH => .alu .ora (.reg .h) | .oraL => .alu .ora (.reg .l) | .oraM => .alu .ora .m
  | .oraA => .alu .ora (.reg .a)
  | .cmpB => .alu .cmp (.reg .b) | .cmpC => .alu .cmp (.reg .c) | .cmpD => .alu .cmp (.reg .d)
  | .cmpE => .alu .cmp (.reg .e) | .cmpH => .alu .cmp (.reg .h) | .cmpL => .alu .cmp (.reg .l) | .cmpM => .alu .cmp .m
  | .cmpA => .alu .cmp (.reg .a)
  | .rnz => .ret (some .nz) | .rz => .ret (some .z) | .ret | .retAlias => .ret none | .rnc => .ret (some .nc)
  | .rc => .ret (some .c) | .rpo => .ret (some .po) | .rpe => .ret (some .pe) | .rp => .ret (some .p)
  | .rm => .ret (some .m)
  | .popB => .pop .bc | .popD => .pop .de | .popH => .pop .hl | .popPsw => .pop .psw
  | .jnz w => .jump (some .nz) w | .jmp w | .jmpAlias w => .jump none w | .jz w => .jump (some .z) w
  | .jnc w => .jump (some .nc) w | .jc w => .jump (some .c) w | .jpo w => .jump (some .po) w
  | .jpe w => .jump (some .pe) w | .jp w => .jump (some .p) w | .jm w => .jump (some .m) w
  | .cnz w => .call (some .nz) w | .cz w => .call (some .z) w
  | .call w | .callAliasDD w | .callAliasED w | .callAliasFD w => .call none w | .cnc w => .call (some .nc) w
  | .cc w => .call (some .c) w | .cpo w => .call (some .po) w | .cpe w => .call (some .pe) w
  | .cp w => .call (some .p) w | .cm w => .call (some .m) w
  | .pushB => .push .bc | .pushD => .push .de | .pushH => .push .hl | .pushPsw => .push .psw
  | .adi v => .alu .add (.immediate v) | .aci v => .alu .adc (.immediate v) | .sui v => .alu .sub (.immediate v)
  | .sbi v => .alu .sbb (.immediate v) | .ani v => .alu .ana (.immediate v) | .xri v => .alu .xra (.immediate v)
  | .ori v => .alu .ora (.immediate v) | .cpi v => .alu .cmp (.immediate v)
  | .rst0 => .call none 0x00 | .rst1 => .call none 0x08 | .rst2 => .call none 0x10 | .rst3 => .call none 0x18
  | .rst4 => .call none 0x20 | .rst5 => .call none 0x28 | .rst6 => .call none 0x30 | .rst7 => .call none 0x38
  | .rlc => .rlc | .rrc => .rrc | .ral => .ral | .rar => .rar | .shld w => .storeHl w | .daa => .daa
  | .lhld w => .loadHl w | .cma => .cma | .sta w => .storeDirect w | .stc => .stc | .cmc => .cmc | .hlt => .halt
  | .outPort v => .output v | .inPort v => .input v | .xthl => .xthl | .pchl => .jumpHl | .xchg => .xchg
  | .sphl => .sphl

/-- Every instruction completes, in the state its operation gives. -/
theorem exec_eq_run (i : Instr) (s : State) : exec i s = .next ((operationOf i).run s) := by
  cases i <;> rfl

theorem eq_run_of_exec {i : Instr} {s t : State} (h : exec i s = .next t) : t = (operationOf i).run s := by
  rw [exec_eq_run] at h
  exact (Host.Outcome.next.inj h).symm

/-! ## What the operations touch -/

/-- The registers of a pair. -/
def pairRegs : RegPair → List Reg
  | .bc => [.b, .c]
  | .de => [.d, .e]
  | .hl => [.h, .l]
  | .sp => []

/-- The general registers a stack pair is made of. -/
def stackPairRegs : StackPair → List Reg
  | .bc => [.b, .c]
  | .de => [.d, .e]
  | .hl => [.h, .l]
  | .psw => [.a]

/-- The flag a condition tests (R96). -/
def condFlag : Cond → FlagName
  | .nz | .z => .z
  | .nc | .c => .cy
  | .po | .pe => .p
  | .p | .m => .s

/-- The general registers an operation writes (R22). -/
def Operation.regsWritten : Operation → List Reg
  | .move (.reg r) _ | .inc (.reg r) | .dec (.reg r) => [r]
  | .alu .cmp _ => []
  | .alu _ _ | .rlc | .rrc | .ral | .rar | .daa | .cma | .input _ => [.a]
  | .setPair p _ | .incPair p | .decPair p => pairRegs p
  | .pop p => stackPairRegs p
  | .addPair _ | .loadHl _ | .xthl => [.h, .l]
  | .xchg => [.d, .e, .h, .l]
  | _ => []

/-- Whether an operation writes SP (R25), under given flags. -/
def Operation.spWritten : Operation → Flags → Bool
  | .setPair .sp _, _ | .incPair .sp, _ | .decPair .sp, _ | .push _, _ | .pop _, _ | .sphl, _ => true
  | .call ccc _, f | .ret ccc, f => taken ccc f
  | _, _ => false

/-- The flags an operation writes (R29). -/
def Operation.flagsWritten : Operation → List FlagName
  | .inc _ | .dec _ => [.s, .z, .ac, .p]
  | .addPair _ | .rlc | .rrc | .ral | .rar | .stc | .cmc => [.cy]
  | .alu _ _ | .daa | .pop .psw => [.s, .z, .ac, .p, .cy]
  | _ => []

/-- The flags an operation reads (R29). -/
def Operation.flagsRead : Operation → List FlagName
  | .ral | .rar | .cmc | .alu .adc _ | .alu .sbb _ => [.cy]
  | .daa => [.ac, .cy]
  | .push .psw => [.s, .z, .ac, .p, .cy]
  | .jump ccc _ | .call ccc _ | .ret ccc => (ccc.map condFlag).toList
  | _ => []

/-- Whether an operation is a taken transfer (R382). -/
def Operation.transferTaken : Operation → Flags → Bool
  | .jump ccc _, f | .call ccc _, f | .ret ccc, f => taken ccc f
  | .jumpHl, _ => true
  | _, _ => false

theorem regsWritten_eq (i : Instr) : i.regsWritten = (operationOf i).regsWritten := by
  cases i <;> rfl

theorem spWritten_eq (i : Instr) (f : Flags) : i.spWritten f = (operationOf i).spWritten f := by
  cases i <;> rfl

theorem flagsWritten_eq (i : Instr) : i.flagsWritten = (operationOf i).flagsWritten := by
  cases i <;> rfl

theorem flagsRead_eq (i : Instr) : i.flagsRead = (operationOf i).flagsRead := by
  cases i <;> rfl

theorem transferTaken_eq (i : Instr) (f : Flags) : i.transferTaken f = (operationOf i).transferTaken f := by
  cases i <;> rfl

/-- Of all instructions only HLT is the halting operation. -/
theorem operationOf_eq_halt_iff (i : Instr) : operationOf i = .halt ↔ i = .hlt := by
  constructor
  · intro h
    cases i
    case hlt => rfl
    all_goals cases h
  · rintro rfl; rfl

end Sys2Proof.Machine
end

section
/-! SUPPORT. What every operation keeps: memory in its form, PC, the halted state, and the registers, SP and the flags
it does not write. -/

namespace Sys2Proof.Machine

/-! ## Registers under the updates of A and of pairs -/

theorem regRead_setBc_other {r : Reg} (hr : r ∉ [Reg.b, .c]) (v : Word) (s : State) :
    regRead r (setBc v s) = regRead r s := by
  cases r
  case b | c => simp at hr
  all_goals rfl

theorem regRead_setDe_other {r : Reg} (hr : r ∉ [Reg.d, .e]) (v : Word) (s : State) :
    regRead r (setDe v s) = regRead r s := by
  cases r
  case d | e => simp at hr
  all_goals rfl

theorem regRead_setHl_other {r : Reg} (hr : r ∉ [Reg.h, .l]) (v : Word) (s : State) :
    regRead r (setHl v s) = regRead r s := by
  cases r
  case h | l => simp at hr
  all_goals rfl

theorem regRead_applyToA_other {r : Reg} (hr : r ∉ [Reg.a]) (x : AluResult) (s : State) :
    regRead r (applyToA x s) = regRead r s := by
  cases r
  case a => simp at hr
  all_goals rfl

theorem regRead_setRP_other {p : RegPair} {r : Reg} (hr : r ∉ pairRegs p) (v : Word) (s : State) :
    regRead r (setRP p v s) = regRead r s := by
  cases p with
  | bc => exact regRead_setBc_other hr v s
  | de => exact regRead_setDe_other hr v s
  | hl => exact regRead_setHl_other hr v s
  | sp => cases r <;> rfl

theorem regRead_setStackPair_other {p : StackPair} {r : Reg} (hr : r ∉ stackPairRegs p) (v : Word) (s : State) :
    regRead r (setStackPair p v s) = regRead r s := by
  cases p with
  | bc => exact regRead_setBc_other hr v s
  | de => exact regRead_setDe_other hr v s
  | hl => exact regRead_setHl_other hr v s
  | psw => exact regRead_applyToA_other hr ⟨hiByte v, flagsOfByte (loByte v)⟩ s

@[simp] theorem regRead_withFlags (r : Reg) (s : State) (g : Flags) :
    regRead r { s with flags := g } = regRead r s := by
  cases r <;> rfl

namespace Operation

/-- Memory stays in its one form (R34, R60): the operations that store do so through `memWrite`. -/
theorem wf_run (o : Operation) {s : State} (h : s.mem.wf) : (o.run s).mem.wf := by
  cases o with
  | move x y => exact wf_writeR8 x _ h
  | storeIndexed p => exact wf_memWrite _ _ h
  | storeDirect w => exact wf_memWrite w _ h
  | storeHl w => exact wf_write16 w _ h
  | alu op y => cases op <;> exact h
  | inc x => exact wf_incOperand x h
  | dec x => exact wf_decOperand x h
  | call ccc w => rw [run]; split; exacts [wf_callTo w h, h]
  | jump ccc w | ret ccc => rw [run]; split <;> exact h
  | push p => exact wf_pushPair p h
  | xthl => exact wf_exchangeTop h
  | _ => simpa [run] using h

/-- Only a taken transfer writes PC (R26, R382). -/
theorem run_pc {o : Operation} {s : State} (h : o.transferTaken s.flags = false) : (o.run s).pc = s.pc := by
  cases o with
  | jump ccc w | call ccc w | ret ccc =>
    have ht : taken ccc s.flags = false := h
    simp [run, ht]
  | jumpHl => cases h
  | alu op y => cases op <;> rfl
  | _ => simp [run]

/-- Only HLT writes the halted state, and it sets it (R30). -/
theorem run_halted {o : Operation} (ho : o ≠ .halt) (s : State) : (o.run s).halted = s.halted := by
  cases o with
  | halt => exact absurd rfl ho
  | jump ccc w | call ccc w | ret ccc => rw [run]; split <;> rfl
  | alu op y => cases op <;> rfl
  | _ => simp [run]

/-- The frame of the registers (R22). -/
theorem regRead_run {o : Operation} {r : Reg} (hr : r ∉ o.regsWritten) (s : State) :
    regRead r (o.run s) = regRead r s := by
  cases o with
  | move x y =>
    cases x with
    | reg q => exact regRead_regWrite_other (by simpa [regsWritten] using hr) _ s
    | m => cases r <;> rfl
  | inc x | dec x =>
    cases x with
    | reg q => exact (regRead_withFlags ..).trans (regRead_regWrite_other (by simpa [regsWritten] using hr) _ s)
    | m => cases r <;> rfl
  | alu op y =>
    cases op
    case cmp => cases r <;> rfl
    all_goals exact regRead_applyToA_other hr _ s
  | rlc | rrc | ral | rar | daa | cma | input port =>
    cases r
    case a => simp [regsWritten] at hr
    all_goals rfl
  | setPair p w | incPair p | decPair p => exact regRead_setRP_other hr _ s
  | pop p => exact (regRead_setStackPair_other hr _ _).trans (by cases r <;> rfl)
  | addPair p | loadHl w | xthl => exact (regRead_setHl_other hr _ _).trans (by cases r <;> rfl)
  | xchg =>
    simp only [regsWritten, List.mem_cons, not_or] at hr
    rw [run, regRead_setHl_other (by simp [hr]), regRead_setDe_other (by simp [hr])]
  | jump ccc w | call ccc w | ret ccc => rw [run]; split <;> cases r <;> rfl
  | _ => cases r <;> rfl

/-- The frame of SP (R25). -/
theorem run_sp {o : Operation} {s : State} (h : o.spWritten s.flags = false) : (o.run s).sp = s.sp := by
  cases o with
  | setPair p w | incPair p | decPair p =>
    cases p
    case sp => cases h
    all_goals rfl
  | jump ccc w => rw [run]; split <;> rfl
  | call ccc w | ret ccc =>
    have ht : taken ccc s.flags = false := h
    simp [run, ht]
  | push p | pop p | sphl => cases h
  | alu op y => cases op <;> rfl
  | _ => simp [run]

/-- The frame of the flags (R29). -/
theorem getFlag_run {o : Operation} {k : FlagName} (hk : k ∉ o.flagsWritten) (s : State) :
    getFlag k (o.run s).flags = getFlag k s.flags := by
  cases o with
  | inc x | dec x =>
    cases k
    case cy => simp [run, getFlag]
    all_goals simp [flagsWritten] at hk
  | addPair p | rlc | rrc | ral | rar | stc | cmc =>
    cases k
    case cy => simp [flagsWritten] at hk
    all_goals rfl
  | alu op y | daa => cases k <;> simp [flagsWritten] at hk
  | pop p =>
    cases p
    case psw => cases k <;> simp [flagsWritten] at hk
    all_goals rfl
  | jump ccc w | call ccc w | ret ccc => rw [run]; split <;> rfl
  | _ => simp [run]

end Operation

/-- A meaning leaves the core halted exactly when it is that of HLT or starts from a halted core (R30). -/
theorem exec_halted_iff {i : Instr} {s t : State} (h : exec i s = .next t) :
    t.halted = true ↔ i = .hlt ∨ s.halted = true := by
  rw [eq_run_of_exec h, ← operationOf_eq_halt_iff]
  by_cases ho : operationOf i = .halt
  · simp [ho, Operation.run]
  · simp [ho, Operation.run_halted ho]

end Sys2Proof.Machine
end

section
/-! SUPPORT. What an operation takes from the flags: those it reads, and no others (R29). -/

namespace Sys2Proof.Machine

/-- `u` is `t` but for flags, and has the flags `ks` of `t`. -/
def AgreesBut (ks : List FlagName) (t u : State) : Prop :=
  u = { t with flags := u.flags } ∧ ∀ k ∈ ks, getFlag k u.flags = getFlag k t.flags

theorem AgreesBut.of_eq {ks : List FlagName} {t u : State} (h : u = t) : AgreesBut ks t u := by
  subst h; exact ⟨rfl, fun _ _ => rfl⟩

theorem AgreesBut.of_withFlags {ks : List FlagName} {t u : State} {f : Flags} (h : u = { t with flags := f })
    (hf : ∀ k ∈ ks, getFlag k f = getFlag k t.flags) : AgreesBut ks t u := by
  subst h; exact ⟨rfl, hf⟩

theorem AgreesBut.nil {t u : State} {f : Flags} (h : u = { t with flags := f }) : AgreesBut [] t u :=
  .of_withFlags h (by simp)

/-- Flags that agree on the one a condition tests take the same transfers. -/
theorem taken_congr {ccc : Option Cond} {f g : Flags}
    (h : ∀ k ∈ (ccc.map condFlag).toList, getFlag k g = getFlag k f) :
    taken ccc g = taken ccc f := by
  cases ccc with
  | none => rfl
  | some ccc =>
    have h : getFlag (condFlag ccc) g = getFlag (condFlag ccc) f := h _ (by simp)
    cases ccc
    case z | c | pe | m => exact h
    all_goals exact congrArg not h

theorem flags_eq_of_getFlag {f g : Flags} (h : ∀ k, getFlag k g = getFlag k f) : g = f := by
  cases f; cases g
  simp only [Flags.mk.injEq]
  exact ⟨h .s, h .z, h .ac, h .p, h .cy⟩

@[simp] theorem value_withFlags (y : Source) (s : State) (g : Flags) : y.value { s with flags := g } = y.value s := by
  cases y with
  | reg r => exact regRead_withFlags r s g
  | indexed p => cases p <;> rfl
  | _ => rfl

@[simp] theorem readR8_withFlags (x : Operand8) (s : State) (g : Flags) :
    readR8 x { s with flags := g } = readR8 x s := by
  cases x with
  | reg r => exact regRead_withFlags r s g
  | m => rfl

theorem writeR8_withFlags (x : Operand8) (v : Byte) (s : State) (g : Flags) :
    writeR8 x v { s with flags := g } = { writeR8 x v s with flags := g } := by
  cases x with
  | reg r => cases r <;> rfl
  | m => rfl

/-- INR and DCR keep the CY there is, and give the same byte and other flags under any. -/
theorem incOperand_withFlags (x : Operand8) (s : State) (g : Flags) :
    incOperand x { s with flags := g } =
      { incOperand x s with flags := { (incOperand x s).flags with cy := g.cy } } := by
  simp only [incOperand, readR8_withFlags, writeR8_withFlags]; rfl

theorem decOperand_withFlags (x : Operand8) (s : State) (g : Flags) :
    decOperand x { s with flags := g } =
      { decOperand x s with flags := { (decOperand x s).flags with cy := g.cy } } := by
  simp only [decOperand, readR8_withFlags, writeR8_withFlags]; rfl

/-- Under other flags that agree where an operation reads them, it does the same but for flags it leaves (R29). -/
theorem Operation.run_withFlags (o : Operation) (s : State) (g : Flags)
    (h : ∀ k ∈ o.flagsRead, getFlag k g = getFlag k s.flags) :
    AgreesBut o.flagsWritten (o.run s) (o.run { s with flags := g }) := by
  cases o with
  | move x y =>
    refine AgreesBut.nil (f := g) ?_
    rw [run, value_withFlags, writeR8_withFlags]; rfl
  | alu op y =>
    apply AgreesBut.of_eq
    rw [run, value_withFlags]
    cases op
    case adc | sbb =>
      have hcy : g.cy = s.flags.cy := h .cy (by simp [flagsRead])
      simp only [run, aluApply, aluAdc, aluSbb, hcy]; rfl
    all_goals rfl
  | daa =>
    apply AgreesBut.of_eq
    have hac : g.ac = s.flags.ac := h .ac (by simp [flagsRead])
    have hcy : g.cy = s.flags.cy := h .cy (by simp [flagsRead])
    simp [run, decimalAdjust, daa8, hac, hcy]
  | inc x =>
    exact .of_withFlags (incOperand_withFlags x s g) (by simp [flagsWritten, getFlag, run])
  | dec x =>
    exact .of_withFlags (decOperand_withFlags x s g) (by simp [flagsWritten, getFlag, run])
  | ral | rar | cmc =>
    have hcy : g.cy = s.flags.cy := h .cy (by simp [flagsRead])
    simp only [run, hcy]
    exact ⟨rfl, by simp [flagsWritten, getFlag]⟩
  | rlc | rrc | stc => exact ⟨rfl, by simp [flagsWritten, run, getFlag]⟩
  | addPair p => cases p <;> exact ⟨rfl, by simp only [flagsWritten, List.forall_mem_singleton]; rfl⟩
  | setPair p w | incPair p | decPair p => cases p <;> exact AgreesBut.nil rfl
  | storeIndexed p => cases p <;> exact AgreesBut.nil rfl
  | jump ccc w | call ccc w | ret ccc =>
    have ht : taken ccc g = taken ccc s.flags := taken_congr h
    refine AgreesBut.nil (f := g) ?_
    simp only [run, ht]
    split <;> rfl
  | push p =>
    cases p
    case psw =>
      have hg : g = s.flags := flags_eq_of_getFlag fun k => h k (by cases k <;> simp [flagsRead])
      rw [hg]; exact AgreesBut.of_eq rfl
    all_goals exact AgreesBut.nil rfl
  | pop p =>
    cases p
    case psw => exact AgreesBut.of_eq rfl
    all_goals exact AgreesBut.nil rfl
  | _ => exact AgreesBut.nil rfl

end Sys2Proof.Machine
end

section
/-! SUPPORT. The step and the run: what is fetched, and an invariant of every step is one of every run. -/

namespace Sys2Proof

/-- The instruction of an opcode byte has the format of that byte (R92). -/
theorem format_decodeOpcode (op b1 b2 : Byte) : (decodeOpcode op b1 b2).format = formatOf op := by
  rw [← formatOf_opcode, opcode_decodeOpcode]

namespace Machine

theorem step_of_halted {s : State} (h : s.halted = true) : step s = .next s := by simp [step, h]

theorem step_of_running {s : State} (h : s.halted = false) : step s = exec (fetchInstr s).1 (fetchInstr s).2 := by
  simp [step, h]

/-- A step of a running core is the operation of the instruction fetched. -/
theorem eq_run_of_step {s t : State} (h : s.halted = false) (hst : step s = .next t) :
    t = (operationOf (fetchInstr s).1).run (fetchInstr s).2 :=
  eq_run_of_exec (step_of_running h ▸ hst)

/-- The opcode byte of the instruction fetched is the byte at PC. -/
theorem opcode_fetchInstr (s : State) : (fetchInstr s).1.opcode = memRead s.pc s := by
  rw [fetchInstr_eq]
  split <;> exact opcode_decodeOpcode _ _ _

theorem fetchInstr_eq_hlt_iff (s : State) : (fetchInstr s).1 = .hlt ↔ memRead s.pc s = 0x76 := by
  constructor
  · intro h
    rw [← opcode_fetchInstr, h]; rfl
  · intro h
    rw [fetchInstr_eq, h]; rfl

@[simp] theorem fetchInstr_halted (s : State) : (fetchInstr s).2.halted = s.halted := by rw [fetchInstr_state]

/-- The fetch takes the instruction that decodes from the bytes at PC, and moves PC past it (R97, R98). -/
theorem fetchInstr_of_decode {s : State} {i : Instr} {rest : List Byte}
    (h : decode (Claims.bytesFrom s.pc s) = .ok (i, rest)) :
    fetchInstr s = (i, { s with pc := s.pc + BitVec.ofNat 16 i.length }) := by
  rw [fetchInstr_eq]
  simp only [Claims.bytesFrom, decode] at h
  cases hf : formatOf (memRead s.pc s)
  all_goals
    simp only [hf, Except.ok.injEq, Prod.mk.injEq] at h
    obtain ⟨rfl, -⟩ := h
    simp [Instr.length, format_decodeOpcode, hf, Format.length, BitVec.add_assoc]

/-- What every step keeps, every run keeps. -/
theorem run_keeps {P : State → Prop} (hP : ∀ s t, P s → step s = .next t → P t) {n k : Nat} {s u : State}
    (hs : P s) (h : run n s = .next (u, k)) : P u := by
  induction n generalizing s k with
  | zero => cases h; exact hs
  | succ n ih =>
    rw [run] at h
    split at h
    · cases h; exact hs
    · split at h
      case _ t ht =>
        split at h
        case _ v j hrun => cases h; exact ih (hP s t hs ht) hrun
        all_goals cases h
      all_goals cases h

end Machine

end Sys2Proof
end

section
/-! SUPPORT. A word as the two bytes it is made of, in the operators the spec writes the views with (R23, R24). -/

namespace Sys2Proof

theorem cat_eq_append (x y : Byte) : cat x y = x ++ y := by
  apply BitVec.eq_of_toNat_eq
  rw [cat_toNat, BitVec.toNat_append, ← Nat.shiftLeft_add_eq_or_of_lt y.isLt, Nat.shiftLeft_eq]

theorem cat_eq_shiftLeft_or (x y : Byte) : cat x y = (x.setWidth 16 <<< 8) ||| y.setWidth 16 := by
  rw [cat_eq_append, BitVec.append_def, BitVec.shiftLeftZeroExtend_eq, BitVec.setWidth'_eq]

theorem cat_and (x y x' y' : Byte) : cat x y &&& cat x' y' = cat (x &&& x') (y &&& y') := by
  simp only [cat_eq_append]; exact BitVec.and_append

theorem cat_or (x y x' y' : Byte) : cat x y ||| cat x' y' = cat (x ||| x') (y ||| y') := by
  simp only [cat_eq_append]; exact BitVec.or_append

/-- PSW reads back as it was written, the fixed bits of its flag byte forced (R24, R28). -/
theorem Machine.psw_setPsw (v : Word) (s : Machine.State) :
    Machine.psw (Machine.setPsw v s) = (v &&& 0xFFD7) ||| 0x0002 := by
  have hhi : (hiByte v &&& BitVec.allOnes 8) ||| 0#8 = hiByte v := by rw [BitVec.and_allOnes, BitVec.or_zero]
  calc Machine.psw (Machine.setPsw v s)
    _ = cat (hiByte v) ((loByte v &&& 0xD7) ||| 0x02) := by rw [← Machine.flagByte_flagsOfByte]; rfl
    _ = (cat (hiByte v) (loByte v) &&& cat 0xFF 0xD7) ||| cat 0x00 0x02 := by
      rw [cat_and, cat_or]; exact congrArg (cat · _) hhi.symm
    _ = (v &&& 0xFFD7) ||| 0x0002 := by rw [cat_hiByte_loByte]; rfl

end Sys2Proof
end

section
/-! PROOFS. The state, its invariant and the frames of all instructions (10_state.md). -/

open Sys2Proof Sys2Proof.Machine Sys2Proof.Claims

/-- Settles O3: the step is an operation on the state the fetch gives, and every operation keeps memory in its form. -/
theorem stepKeepsTheInvariant : Obligations.StepKeepsTheInvariant := by
  intro s t hs h
  cases hh : s.halted with
  | true =>
    rw [step_of_halted hh] at h
    cases h; exact hs
  | false =>
    rw [eq_run_of_step hh h]
    exact Operation.wf_run _ (by simpa using hs)

/-- Settles O14: the fetch moves PC past the instruction, and an operation that is no taken transfer leaves it. -/
theorem pcAdvancesByTheLengthUnlessTransferIsTaken : Obligations.PcAdvancesByTheLengthUnlessTransferIsTaken := by
  intro s t i rest hh hd h hn
  rw [eq_run_of_step hh h, fetchInstr_of_decode hd]
  exact Operation.run_pc ((transferTaken_eq i s.flags).symm.trans hn)

/-- Settles O4: each operation of the host stores through `memWrite` or leaves memory, and a run keeps what a
step keeps. -/
theorem hostOperationsKeepTheInvariant : Obligations.HostOperationsKeepTheInvariant := by
  intro s hs
  refine ⟨Memory.wf_reset, fun _ _ => wf_memWrite _ _ hs, fun _ _ => wf_storeBytes _ _ hs, ?_, ?_, fun _ => hs, ?_⟩
  · intro n v
    cases n <;> exact hs
  · intro k x
    cases k <;> exact hs
  · intro n t k h
    exact run_keeps stepKeepsTheInvariant hs h

/-- Settles O13: HLT alone sets the halted state (`exec_halted_iff`), and it is fetched exactly for the byte 0x76. -/
theorem onlyHltHalts : Obligations.OnlyHltHalts := by
  refine ⟨fun i s t h => exec_halted_iff h, fun s t h => ?_⟩
  cases hh : s.halted with
  | true =>
    rw [step_of_halted hh] at h
    cases h; simp [hh]
  | false =>
    rw [step_of_running hh] at h
    simp [exec_halted_iff h, fetchInstr_eq_hlt_iff, hh]

/-- Settles O15: by the frames of the operations. -/
theorem registersAndSpAreWrittenOnlyWhereTheTablesSay : Obligations.RegistersAndSpAreWrittenOnlyWhereTheTablesSay := by
  intro i s t h
  rw [eq_run_of_exec h, regsWritten_eq, spWritten_eq]
  exact ⟨fun r hr => Operation.regRead_run hr s, Operation.run_sp⟩

/-- Settles O16: by the flag frame of the operations. -/
theorem flagsAreWrittenOnlyWhereTheTableSays : Obligations.FlagsAreWrittenOnlyWhereTheTableSays := by
  intro i s t h k hk
  rw [eq_run_of_exec h]
  exact Operation.getFlag_run (flagsWritten_eq i ▸ hk) s

/-- Settles O20: by what the operations take from the flags. -/
theorem instructionsReadFlagsOnlyWhereTheTableSays : Obligations.InstructionsReadFlagsOnlyWhereTheTableSays := by
  intro i s g h
  rw [flagsRead_eq] at h
  rw [flagsWritten_eq]
  exact ⟨_, _, exec_eq_run i s, exec_eq_run i _, Operation.run_withFlags _ s g h⟩

/-- Settles O6: a pair is the concatenation of its halves, and a write takes the halves apart. -/
theorem pairsAndPswAreViews : Obligations.PairsAndPswAreViews := by
  refine ⟨fun s => ?_, fun s v => ?_⟩
  · exact ⟨cat_eq_shiftLeft_or .., cat_eq_shiftLeft_or .., cat_eq_shiftLeft_or .., cat_eq_shiftLeft_or ..⟩
  · rw [← hiByte_eq_extract, ← loByte_eq_extract]
    exact ⟨rfl, bc_setBc v s, rfl, de_setDe v s, rfl, hl_setHl v s, rfl, psw_setPsw v s⟩

/-- Settles O1: by evaluation of the reset state. -/
theorem resetPutsEveryPieceAtItsValue : Obligations.ResetPutsEveryPieceAtItsValue := by
  refine ⟨?_, fun s => ⟨rfl, rfl⟩⟩
  rintro t rfl
  exact ⟨rfl, rfl, rfl, rfl, rfl, rfl, rfl, rfl, rfl, rfl, rfl, fun _ => rfl, rfl, rfl⟩

/-- Settles O2: the memory of a new core is the empty list. -/
theorem resetStateSatisfiesTheInvariant : Obligations.ResetStateSatisfiesTheInvariant :=
  Memory.wf_reset

/-- Settles O5: by the 32 values of the flags; a write is the definition of `flagsOfByte`. -/
theorem flagByteHasItsLayoutAndFixedBits : Obligations.FlagByteHasItsLayoutAndFixedBits := by
  refine ⟨?_, fun v => rfl⟩
  rintro ⟨s, z, ac, p, cy⟩
  revert s z ac p cy
  decide

end

section
/-! SUPPORT. What an operation stores: a list of bytes with their addresses (R69). Memory after it is memory before with
these written, and they depend on memory only where the operation reads it. -/

namespace Sys2Proof.Machine

/-! ## Bytes written one after the other -/

/-- A memory with bytes written at their addresses, in the order of the list. -/
def Memory.writeAll : List (Word × Byte) → Memory → Memory
  | [], m => m
  | (a, v) :: ws, m => Memory.writeAll ws (m.writeAt a.toNat v)

/-- An address none of the bytes is written to reads as before. -/
theorem Memory.readAt_writeAll_other {ws : List (Word × Byte)} {m : Memory} (hm : m.wf) {b : Word}
    (hb : b ∉ ws.map Prod.fst) : (writeAll ws m).readAt b.toNat = m.readAt b.toNat := by
  induction ws generalizing m with
  | nil => rfl
  | cons w ws ih =>
    obtain ⟨a, v⟩ := w
    obtain ⟨hba, hb⟩ : b ≠ a ∧ b ∉ ws.map Prod.fst := by simpa using hb
    rw [writeAll, ih (wf_writeAt hm a.isLt v) hb, readAt_writeAt_other hm (toNat_ne hba)]

/-- The same bytes written to two memories: they agree at every address written, and wherever they agreed before. -/
theorem Memory.readAt_writeAll_congr {ws : List (Word × Byte)} {m m' : Memory} (hm : m.wf) (hm' : m'.wf) {b : Word}
    (hb : b ∈ ws.map Prod.fst ∨ m.readAt b.toNat = m'.readAt b.toNat) :
    (writeAll ws m).readAt b.toNat = (writeAll ws m').readAt b.toNat := by
  induction ws generalizing m m' with
  | nil => simpa [writeAll] using hb
  | cons w ws ih =>
    obtain ⟨a, v⟩ := w
    refine ih (wf_writeAt hm a.isLt v) (wf_writeAt hm' a.isLt v) ?_
    by_cases hba : b = a
    · subst hba
      exact .inr (by rw [readAt_writeAt_same hm, readAt_writeAt_same hm'])
    · rw [readAt_writeAt_other hm (toNat_ne hba), readAt_writeAt_other hm' (toNat_ne hba)]
      simpa [hba] using hb

/-! ## The bytes an operation stores, and the addresses it reads -/

/-- The two bytes `Write16` stores (R67). -/
def wordStores (a v : Word) : List (Word × Byte) := [(a, loByte v), (a + 1, hiByte v)]

/-- The two bytes `Push16` stores (R290). -/
def pushStores (v : Word) (s : State) : List (Word × Byte) := [(s.sp - 1, hiByte v), (s.sp - 2, loByte v)]

/-- The bytes an operation stores, in order. -/
def Operation.stores (o : Operation) (s : State) : List (Word × Byte) :=
  match o with
  | .move .m y => [(hl s, y.value s)]
  | .storeIndexed p => [(getIndexPair p s, s.a)]
  | .storeDirect w => [(w, s.a)]
  | .storeHl w => wordStores w (hl s)
  | .inc .m => [(hl s, (inc8 (memRead (hl s) s) s.flags.cy).res)]
  | .dec .m => [(hl s, (dec8 (memRead (hl s) s) s.flags.cy).res)]
  | .call ccc _ => if taken ccc s.flags then pushStores s.pc s else []
  | .push p => pushStores (getStackPair p s) s
  | .xthl => wordStores s.sp (hl s)
  | _ => []

/-- The addresses a source reads. -/
def Source.loadedAddrs (y : Source) (s : State) : List Word :=
  match y with
  | .m => [hl s]
  | .indexed p => [getIndexPair p s]
  | .direct w => [w]
  | .reg _ | .immediate _ => []

/-- The addresses an operation reads (R69). -/
def Operation.loadedAddrs (o : Operation) (s : State) : List Word :=
  match o with
  | .move _ y | .alu _ y => y.loadedAddrs s
  | .inc .m | .dec .m => [hl s]
  | .loadHl w => [w, w + 1]
  | .ret ccc => if taken ccc s.flags then [s.sp, s.sp + 1] else []
  | .pop _ | .xthl => [s.sp, s.sp + 1]
  | _ => []

theorem storedAddrs_eq (i : Instr) (s : State) : i.storedAddrs s = ((operationOf i).stores s).map Prod.fst := by
  cases i
  case cnz | cz | cnc | cc | cpo | cpe | cp | cm =>
    exact (apply_ite (List.map Prod.fst) (_ = true) (pushStores s.pc s) []).symm
  all_goals rfl

theorem loadedAddrs_eq (i : Instr) (s : State) : i.loadedAddrs s = (operationOf i).loadedAddrs s := by
  cases i <;> rfl

/-- Memory after an operation is memory before with its bytes written. -/
theorem Operation.run_mem (o : Operation) (s : State) : (o.run s).mem = Memory.writeAll (o.stores s) s.mem := by
  cases o with
  | move x y | inc x | dec x =>
    cases x with
    | reg r => cases r <;> rfl
    | m => rfl
  | alu op y => cases op <;> rfl
  | call ccc w => rw [run, stores]; split <;> rfl
  | jump ccc w | ret ccc => rw [run]; split <;> rfl
  | setPair p w | incPair p | decPair p | pop p => cases p <;> rfl
  | _ => rfl

/-- The frame of memory (R69). -/
theorem Operation.memRead_run {o : Operation} {s : State} (hs : s.mem.wf) {a : Word}
    (ha : a ∉ (o.stores s).map Prod.fst) : memRead a (o.run s) = memRead a s := by
  rw [memRead, run_mem, Memory.readAt_writeAll_other hs ha, memRead]

/-! ## What an operation takes from memory -/

/-- At these addresses `s` reads the same with memory `m` as with its own. -/
def SameAt (addrs : List Word) (s : State) (m : Memory) : Prop :=
  ∀ a ∈ addrs, memRead a { s with mem := m } = memRead a s

theorem value_withMem {y : Source} {s : State} {m : Memory} (h : SameAt (y.loadedAddrs s) s m) :
    y.value { s with mem := m } = y.value s := by
  cases y with
  | reg r => cases r <;> rfl
  | m => exact h _ List.mem_cons_self
  | indexed p => cases p <;> exact h _ List.mem_cons_self
  | direct w => exact h _ List.mem_cons_self
  | immediate v => rfl

theorem read16_withMem {a : Word} {s : State} {m : Memory} (h : SameAt [a, a + 1] s m) :
    read16 a { s with mem := m } = read16 a s := by
  rw [read16, h a (by simp), h (a + 1) (by simp), read16]

/-- An operation stores the same bytes from a memory that agrees where it reads (R69). -/
theorem Operation.stores_withMem {o : Operation} {s : State} {m : Memory} (h : SameAt (o.loadedAddrs s) s m) :
    o.stores { s with mem := m } = o.stores s := by
  cases o with
  | move x y =>
    cases x with
    | reg r => rfl
    | m => rw [stores, value_withMem h]; rfl
  | inc x | dec x =>
    cases x with
    | reg r => rfl
    | m =>
      have hm : memRead (hl s) { s with mem := m } = memRead (hl s) s := h _ List.mem_cons_self
      simp only [stores, ← hm]; rfl
  | storeIndexed p | push p => cases p <;> rfl
  | _ => rfl

/-- Beside memory an operation does the same from a memory that agrees where it reads (R69). -/
theorem Operation.run_withMem {o : Operation} {s : State} {m : Memory} (h : SameAt (o.loadedAddrs s) s m) :
    o.run { s with mem := m } = { o.run s with mem := (o.run { s with mem := m }).mem } := by
  cases o with
  | move x y =>
    rw [run, value_withMem h]
    cases x with
    | reg r => cases r <;> rfl
    | m => rfl
  | alu op y =>
    rw [run, value_withMem h]
    cases op <;> rfl
  | inc x | dec x =>
    cases x with
    | reg r => cases r <;> rfl
    | m =>
      have hm : readR8 .m { s with mem := m } = readR8 .m s := h _ List.mem_cons_self
      simp only [run, incOperand, decOperand, hm]; rfl
  | loadHl w => rw [run, read16_withMem h]; rfl
  | ret ccc =>
    simp only [run]
    split
    case isTrue ht =>
      have hr := read16_withMem (a := s.sp) (m := m) (by simpa [loadedAddrs, ht] using h)
      simp only [returnFrom, popValue, hr]; rfl
    case isFalse => rfl
  | pop p =>
    have hr : popValue { s with mem := m } = popValue s := read16_withMem h
    cases p <;> simp only [run, popPair, hr] <;> rfl
  | xthl =>
    have hr : read16 s.sp { s with mem := m } = read16 s.sp s := read16_withMem h
    simp only [run, exchangeTop, hr]; rfl
  | jump ccc w | call ccc w => simp only [run]; split <;> rfl
  | setPair p w | incPair p | decPair p | addPair p => cases p <;> rfl
  | _ => rfl

end Sys2Proof.Machine
end

section
/-! SUPPORT. What an operation does to the I/O state: the events it adds, and the draw it counts (R72 to R76). -/

namespace Sys2Proof.Machine

/-- The events an operation adds to the trace (R75, R76). -/
def Operation.events (o : Operation) (s : State) : List IoEvent :=
  match o with
  | .input port => [.input port (ioValue port s)]
  | .output port => [.output port s.a]
  | _ => []

/-- Of all instructions only IN is the reading operation of the ports. -/
theorem operationOf_eq_input_iff (i : Instr) (port : Byte) : operationOf i = .input port ↔ i = .inPort port := by
  constructor
  · intro h
    cases i
    case inPort => cases h; rfl
    all_goals cases h
  · rintro rfl; rfl

/-- An instruction other than IN and OUT adds no event (R72). -/
theorem events_eq_nil {i : Instr} (h : ∀ v, i ≠ .inPort v ∧ i ≠ .outPort v) (s : State) :
    (operationOf i).events s = [] := by
  cases i
  case inPort v => exact absurd rfl (h v).1
  case outPort v => exact absurd rfl (h v).2
  all_goals rfl

theorem value_withTrace (y : Source) (s : State) (trace : List IoEvent) :
    y.value { s with ioTrace := trace } = y.value s := by
  cases y with
  | reg r => cases r <;> rfl
  | indexed p => cases p <;> rfl
  | _ => rfl

namespace Operation

/-- No operation changes what is attached (R73, R374). -/
theorem run_io (o : Operation) (s : State) : (o.run s).io = s.io := by
  cases o with
  | jump ccc w | call ccc w | ret ccc => rw [run]; split <;> rfl
  | alu op y => cases op <;> rfl
  | _ => simp [run]

theorem run_ioTrace (o : Operation) (s : State) : (o.run s).ioTrace = s.ioTrace ++ o.events s := by
  cases o with
  | jump ccc w | call ccc w | ret ccc => rw [run]; split <;> simp [events]
  | alu op y => cases op <;> simp [run, aluApply, events]
  | _ => simp [run, events]

/-- Only a read of an attached device counts a draw (R75). -/
theorem run_ioDraws {o : Operation} {s : State} (h : (∀ port, o ≠ .input port) ∨ s.io = .defaultStubs) :
    (o.run s).ioDraws = s.ioDraws := by
  cases o with
  | input port =>
    have hs : s.io = .defaultStubs := h.resolve_left fun hp => hp port rfl
    simp [run, ioAfterIn_defaultStubs port hs]
  | jump ccc w | call ccc w | ret ccc => rw [run]; split <;> rfl
  | alu op y => cases op <;> rfl
  | _ => simp [run]

/-- With no device attached the events an operation adds do not depend on the trace (R76). -/
theorem events_withTrace (o : Operation) {s : State} (hs : s.io = .defaultStubs) (trace : List IoEvent) :
    o.events { s with ioTrace := trace } = o.events s := by
  cases o with
  | input port => simp only [events, ioValue, hs]
  | _ => rfl

/-- With no device attached an operation does the same under any trace, and adds the same events (R76). -/
theorem run_withTrace (o : Operation) {s : State} (hs : s.io = .defaultStubs) (trace : List IoEvent) :
    o.run { s with ioTrace := trace } = { o.run s with ioTrace := trace ++ o.events s } := by
  have hrest : o.run { s with ioTrace := trace } =
      { o.run s with ioTrace := (o.run { s with ioTrace := trace }).ioTrace } := by
    cases o with
    | move x y =>
      rw [run, value_withTrace]
      cases x with
      | reg r => cases r <;> rfl
      | m => rfl
    | inc x | dec x =>
      cases x with
      | reg r => cases r <;> rfl
      | m => rfl
    | alu op y =>
      rw [run, value_withTrace]
      cases op <;> rfl
    | input port => simp only [run, ioValue, ioAfterIn, hs]; rfl
    | jump ccc w | call ccc w | ret ccc => simp only [run]; split <;> rfl
    | storeIndexed p | setPair p w | incPair p | decPair p | addPair p | push p | pop p => cases p <;> rfl
    | _ => rfl
  rw [hrest, run_ioTrace, events_withTrace o hs]

end Operation

theorem fetchInstr_withTrace (s : State) (trace : List IoEvent) :
    fetchInstr { s with ioTrace := trace } = ((fetchInstr s).1, { (fetchInstr s).2 with ioTrace := trace }) := by
  have hop : fetch8 { s with ioTrace := trace } = fetch8 s := rfl
  simp only [fetchInstr, hop]
  split <;> rfl

end Sys2Proof.Machine
end

section
/-! SUPPORT. What the host's `load` leaves (R369). -/

namespace Sys2Proof.Machine

theorem maskWord_add_natCast (b : Int) (k : Nat) : maskWord (b + k) = maskWord b + BitVec.ofNat 16 k := by
  rw [maskWord, BitVec.ofInt_add, BitVec.ofInt_natCast, maskWord]

/-- `load` leaves every byte outside the addresses it is given. -/
theorem memRead_load_other {s : State} (hs : s.mem.wf) {a : Word} {base : Int} {bytes : List Int}
    (ha : ∀ k : Nat, k < bytes.length → a ≠ maskWord (base + k)) : memRead a (load base bytes s) = memRead a s := by
  refine memRead_storeBytes_other _ hs fun k hk => ?_
  rw [← maskWord_add_natCast]
  exact ha k (by simpa using hk)

end Sys2Proof.Machine
end

section
/-! PROOFS. Memory and the I/O ports (20_memory.md). -/

open Sys2Proof Sys2Proof.Machine Sys2Proof.Claims

/-- Settles O17: an operation writes the bytes of its list of stores and no other. -/
theorem memoryIsWrittenOnlyWhereTheTableSays : Obligations.MemoryIsWrittenOnlyWhereTheTableSays := by
  intro i s t hs h a ha
  rw [eq_run_of_exec h]
  exact Operation.memRead_run hs (storedAddrs_eq i s ▸ ha)

/-- Settles O19: from memories that agree where it reads, an operation stores the same bytes and does the same beside. -/
theorem instructionsReadMemoryOnlyWhereTheTableSays : Obligations.InstructionsReadMemoryOnlyWhereTheTableSays := by
  intro i s m h
  rw [loadedAddrs_eq] at h
  refine ⟨_, _, exec_eq_run i s, exec_eq_run i _, Operation.run_withMem h, fun hs hm a ha => ?_⟩
  rw [storedAddrs_eq] at ha
  simp only [memRead, Operation.run_mem, Operation.stores_withMem h]
  exact Memory.readAt_writeAll_congr hs hm (.inl ha)

/-- Settles O18: by what the operations do to the attachment, the trace and the draw count. -/
theorem onlyInAndOutTouchTheIoState : Obligations.OnlyInAndOutTouchTheIoState := by
  intro i s t h
  rw [eq_run_of_exec h]
  refine ⟨Operation.run_io _ s, fun hi => ?_, fun hi => Operation.run_ioDraws (hi.imp_left fun hi v => ?_)⟩
  · rw [Operation.run_ioTrace, events_eq_nil hi, List.append_nil]
  · exact mt (operationOf_eq_input_iff i v).1 (hi v)

/-- Settles O21: the fetch and the operation do the same whatever the trace holds, and the operation adds its events. -/
theorem noInstructionReadsTheIoTrace : Obligations.NoInstructionReadsTheIoTrace := by
  intro s hs
  by_cases hh : s.halted = true
  · refine ⟨s, [], fun trace => ?_⟩
    rw [List.append_nil]
    exact step_of_halted hh
  · have hrun : s.halted = false := eq_false_of_ne_true hh
    have hio : (fetchInstr s).2.io = .defaultStubs := by rw [fetchInstr_state]; exact hs
    let o := operationOf (fetchInstr s).1
    refine ⟨o.run (fetchInstr s).2, o.events (fetchInstr s).2, fun trace => ?_⟩
    rw [step_of_running (s := { s with ioTrace := trace }) hrun, fetchInstr_withTrace, exec_eq_run,
      Operation.run_withTrace _ hio]

/-- Settles O7: a memory in its form reads back what was written, and a store leaves the bytes beside it. In the
clause on `load` the `k` is an integer, negative ones too, so that no address meets its hypothesis; the frame of `load` is
`memRead_load_other`, where `k` is a position in the list. -/
theorem readAfterWriteGivesTheByteWritten : Obligations.ReadAfterWriteGivesTheByteWritten := by
  refine ⟨fun s a v hs => ⟨memRead_memWrite_same a v hs, fun b hb => memRead_memWrite_other hb v hs, rfl⟩,
    fun _ => rfl, fun s a hs => ⟨fun b v hb => memRead_memWrite_other hb _ hs, fun base bytes hb => ?_, rfl⟩⟩
  exact memRead_load_other hs fun k hk => hb k (by exact_mod_cast hk)

/-- Settles O8: by what `Write16` stores at its two addresses and leaves elsewhere. -/
theorem wordsInMemoryAreLittleEndianAndWrap : Obligations.WordsInMemoryAreLittleEndianAndWrap := by
  intro s a v
  refine ⟨by rw [read16, cat_toNat]; omega, fun hs => ⟨⟨?_, ?_, ?_⟩, read16_write16 a v hs, rfl⟩⟩
  · rw [memRead_write16_low a v hs, loByte_toNat]
  · rw [memRead_write16_high a v hs, hiByte_toNat]
  · exact fun b hlow hhigh => memRead_write16_other v hlow hhigh hs

/-- Settles O54: by what IN reads and appends with no device (`ioAfterIn_defaultStubs`) and with one
(`ioAfterIn_device`). -/
theorem inAndOut : Obligations.InAndOut := by
  intro s port
  refine ⟨rfl, rfl, rfl, fun hs => ?_, fun id hs => ⟨ioValue port s, ?_⟩⟩
  · rw [exec_inPort, ioAfterIn_defaultStubs port hs, ioValue_defaultStubs port hs]; rfl
  · rw [exec_inPort, ioAfterIn_device port hs]; rfl

end

section
/-! SUPPORT. The decoder and the encoder are inverse to each other, and the policy for the undocumented opcode bytes
governs five of them (30_encoding.md R90, R91, R102, R103). -/

namespace Sys2Proof

/-- The format of an instruction is the one that holds the operand it carries (R91). -/
theorem format_eq_of_immediate (i : Instr) :
    i.format =
      match i.immediate with
      | .none => .f1
      | .d8 _ => .f2
      | .d16 _ => .f3 := by
  cases i <;> rfl

theorem encode_of_none {i : Instr} {op : Byte} (hop : i.opcode = op) (h : i.immediate = .none) : encode i = [op] := by
  rw [encode, hop, h, Immediate.bytes]

theorem encode_of_d8 {i : Instr} {op v : Byte} (hop : i.opcode = op) (h : i.immediate = .d8 v) :
    encode i = [op, v] := by
  rw [encode, hop, h, Immediate.bytes]

/-- The operand bytes stand low byte first (R91). -/
theorem encode_of_d16 {i : Instr} {op x y : Byte} (hop : i.opcode = op) (h : i.immediate = .d16 (cat y x)) :
    encode i = [op, x, y] := by
  rw [encode, hop, h, Immediate.bytes, loByte_cat, hiByte_cat]

/-! ## What `decode` answers, by the format and the bytes there are -/

theorem decode_of_f1 {op : Byte} (hf : formatOf op = .f1) (rest : List Byte) :
    decode (op :: rest) = .ok (decodeOpcode op 0 0, rest) := by simp only [decode, hf]

theorem decode_of_f2 {op : Byte} (hf : formatOf op = .f2) (b1 : Byte) (rest : List Byte) :
    decode (op :: b1 :: rest) = .ok (decodeOpcode op b1 0, rest) := by simp only [decode, hf]

theorem decode_of_f3 {op : Byte} (hf : formatOf op = .f3) (b1 b2 : Byte) (rest : List Byte) :
    decode (op :: b1 :: b2 :: rest) = .ok (decodeOpcode op b1 b2, rest) := by simp only [decode, hf]

/-- A list that ends before the bytes its opcode byte calls for is truncated (R92). -/
theorem decode_of_short {op : Byte} {rest : List Byte} (h : rest.length + 1 < (formatOf op).length) :
    decode (op :: rest) = .error (.truncated op (formatOf op).length) := by
  cases hf : formatOf op with
  | f1 => simp [hf, Format.length] at h
  | f2 =>
    obtain rfl : rest = [] := List.length_eq_zero_iff.1 (by simpa [hf, Format.length] using h)
    simp only [decode, hf, Format.length]
  | f3 =>
    match rest with
    | [] | [_] => simp only [decode, hf, Format.length]
    | _ :: _ :: _ => simp [hf, Format.length] at h; omega

/-- A list that holds them decodes to an instruction whose bytes they are, and the bytes after them are left (R92,
R103). -/
theorem decode_of_enough {op : Byte} {rest : List Byte} (h : (formatOf op).length ≤ rest.length + 1) :
    ∃ i tail, decode (op :: rest) = .ok (i, tail) ∧ op :: rest = encode i ++ tail ∧
      tail = rest.drop ((formatOf op).length - 1) := by
  have hop := opcode_decodeOpcode op
  have himm := immediate_decodeOpcode op
  cases hf : formatOf op with
  | f1 =>
    simp only [hf] at himm
    exact ⟨_, rest, decode_of_f1 hf rest, by rw [encode_of_none (hop 0 0) (himm 0 0)]; rfl, rfl⟩
  | f2 =>
    simp only [hf] at himm
    match rest with
    | [] => simp [hf, Format.length] at h
    | b1 :: tail =>
      exact ⟨_, tail, decode_of_f2 hf b1 tail, by rw [encode_of_d8 (hop b1 0) (himm b1 0)]; rfl, rfl⟩
  | f3 =>
    simp only [hf] at himm
    match rest with
    | [] | [_] => simp [hf, Format.length] at h
    | b1 :: b2 :: tail =>
      exact ⟨_, tail, decode_of_f3 hf b1 b2 tail, by rw [encode_of_d16 (hop b1 b2) (himm b1 b2)]; rfl, rfl⟩

/-! ## The two directions -/

/-- Only its own bytes decode to an instruction. -/
theorem eq_encode_append_of_decode {bs rest : List Byte} {i : Instr} (h : decode bs = .ok (i, rest)) :
    bs = encode i ++ rest := by
  cases bs with
  | nil => cases h
  | cons op bs =>
    by_cases hlen : bs.length + 1 < (formatOf op).length
    · rw [decode_of_short hlen] at h; cases h
    · obtain ⟨j, tail, hdec, hbs, -⟩ := decode_of_enough (not_lt.1 hlen)
      rw [hdec] at h; cases h
      exact hbs

/-- The decoder reads an instruction from its bytes, whatever follows them (R103). -/
theorem decode_encode_append (i : Instr) (rest : List Byte) : decode (encode i ++ rest) = .ok (i, rest) := by
  have hf := (formatOf_opcode i).trans (format_eq_of_immediate i)
  have hd := decodeOpcode_opcode i
  rw [format_eq_of_immediate i] at hd
  cases hi : i.immediate with
  | none =>
    simp only [hi] at hf hd
    rw [encode_of_none rfl hi, List.singleton_append, decode_of_f1 hf, hd 0 0 trivial]
  | d8 v =>
    simp only [hi] at hf hd
    rw [encode_of_d8 rfl hi, List.cons_append, List.singleton_append, decode_of_f2 hf, hd v 0 rfl]
  | d16 w =>
    obtain ⟨x, y, rfl⟩ : ∃ x y, w = cat y x := ⟨loByte w, hiByte w, (cat_hiByte_loByte w).symm⟩
    simp only [hi] at hf hd
    rw [encode_of_d16 rfl hi, List.cons_append, List.cons_append, List.singleton_append, decode_of_f3 hf, hd x y rfl]

/-! ## The other policy -/

/-- The opcode bytes `UNDOC_POLICY` governs: the aliases of JMP, RET and CALL (R315 to R317). -/
def policyOpcodes : List Byte := [0xCB, 0xD9, 0xDD, 0xED, 0xFD]

/-- Under the policy nop the five bytes are F1, and every other byte has the format of the policy taken (R317). -/
theorem formatUnder_nopForm (op : Byte) :
    formatUnder .nopForm op = if op ∈ policyOpcodes then .f1 else formatUnder .documentedForm op := by
  split
  case isTrue hop =>
    have hf : ∀ op ∈ policyOpcodes, formatUnder .nopForm op = .f1 := by decide
    exact hf op hop
  case isFalse hop =>
    have ha : op ∉ aliasThreeByteOpcodes := fun h => hop ((by decide : aliasThreeByteOpcodes ⊆ policyOpcodes) h)
    simp [formatUnder, ha]

/-- Under the policy nop the five bytes are NOP, and every other byte is the instruction of the policy taken (R317). -/
theorem decodeOpcodeUnder_nopForm (op b1 b2 : Byte) :
    decodeOpcodeUnder .nopForm op b1 b2 =
      if op ∈ policyOpcodes then .nop else decodeOpcodeUnder .documentedForm op b1 b2 := by
  induction op using byte_cases with
  | h n h => interval_cases n <;> rfl

end Sys2Proof
end

section
/-! SUPPORT. The bytes at PC that hold an instruction decode to it, and what an instruction shares with the documented
one it stands for (R97, R98, R102). -/

namespace Sys2Proof

theorem Format.length_le (f : Format) : f.length ≤ 3 := by
  cases f <;> decide

/-- Of the three bytes from an address on, each is the byte at its place. -/
theorem getElem?_bytesFrom (a : Word) (s : Machine.State) {k : Nat} (hk : k < 3) :
    (Claims.bytesFrom a s)[k]? = some (Machine.memRead (a + BitVec.ofNat 16 k) s) := by
  interval_cases k <;> simp [Claims.bytesFrom]

/-- An instruction whose bytes stand from an address on is decoded there. -/
theorem exists_decode_bytesFrom {a : Word} {s : Machine.State} {i : Instr}
    (h : ∀ (k : Nat) (v : Byte), (encode i)[k]? = some v → Machine.memRead (a + BitVec.ofNat 16 k) s = v) :
    ∃ rest, decode (Claims.bytesFrom a s) = .ok (i, rest) := by
  have hlen : (encode i).length ≤ 3 := (length_encode i).trans_le i.format.length_le
  have hprefix : encode i <+: Claims.bytesFrom a s :=
    List.prefix_iff_getElem?.2 fun k hk => by
      rw [getElem?_bytesFrom a s (by omega), h k _ (List.getElem?_eq_getElem hk)]
  obtain ⟨rest, hrest⟩ := hprefix
  exact ⟨rest, hrest ▸ decode_encode_append i rest⟩

theorem length_documented (i : Instr) : i.documented.length = i.length := by
  cases i <;> rfl

theorem operationOf_documented (i : Instr) : Machine.operationOf i.documented = Machine.operationOf i := by
  cases i <;> rfl

theorem opcode_documented_notMem (i : Instr) : i.documented.opcode ∉ Claims.aliasOpcodes := by
  have h : Claims.aliasOpcodes.contains i.documented.opcode = false := by cases i <;> rfl
  simpa using h

/-- An instruction with none of the twelve opcode bytes is the documented one. -/
theorem documented_eq_self {i : Instr} (h : i.opcode ∉ Claims.aliasOpcodes) : i.documented = i := by
  cases i
  case nopAlias08 | nopAlias10 | nopAlias18 | nopAlias20 | nopAlias28 | nopAlias30 | nopAlias38 | jmpAlias | retAlias
      | callAliasDD | callAliasED | callAliasFD =>
    simp [Instr.opcode, Claims.aliasOpcodes] at h
  all_goals rfl

end Sys2Proof
end

section
/-! SUPPORT. The statements of one instruction from its operation: its bytes, and what the operation does to the state.
A conditional transfer tests a flag against a value (R96). -/

namespace Sys2Proof.Machine
open Claims

/-- The value of its flag under which a condition holds (R96). -/
def condValue : Cond → Bool
  | .nz | .nc | .po | .p => false
  | .z | .c | .pe | .m => true

theorem condHolds_iff (ccc : Cond) (f : Flags) :
    condHolds ccc f = true ↔ getFlag (condFlag ccc) f = condValue ccc := by
  cases ccc <;> simp [condHolds, getFlag, condFlag, condValue]

theorem runs_of_operation {i : Instr} {bytes : List Byte} {f : State → State} (hb : encode i = bytes)
    (hf : ∀ s, (operationOf i).run s = f s) : Runs i bytes f :=
  ⟨hb, fun s => by rw [exec_eq_run, hf]⟩

/-! ## Loads -/

theorem setBc_cat (y x : Byte) (s : State) : setBc (cat y x) s = { s with b := y, c := x } := by simp [setBc]
theorem setDe_cat (y x : Byte) (s : State) : setDe (cat y x) s = { s with d := y, e := x } := by simp [setDe]
theorem setHl_cat (y x : Byte) (s : State) : setHl (cat y x) s = { s with h := y, l := x } := by simp [setHl]

/-! ## Jumps and returns -/

theorem runs_jump {i : Instr} {bytes : List Byte} {w : Word} (hb : encode i = bytes)
    (ho : operationOf i = .jump none w) :
    Runs i bytes (fun s => { s with pc := w }) :=
  runs_of_operation hb fun s => by rw [ho]; rfl

theorem runs_jump_if {i : Instr} {bytes : List Byte} {ccc : Cond} {w : Word} (hb : encode i = bytes)
    (ho : operationOf i = .jump (some ccc) w) :
    Runs i bytes (fun s => if getFlag (condFlag ccc) s.flags = condValue ccc then { s with pc := w } else s) :=
  runs_of_operation hb fun s => by simp only [ho, Operation.run, taken, condHolds_iff, jumpTo]

theorem returnFrom_eq (s : State) : returnFrom s = { s with pc := poppedWord s, sp := s.sp + 2 } := rfl

theorem runs_ret {i : Instr} {bytes : List Byte} (hb : encode i = bytes) (ho : operationOf i = .ret none) :
    Runs i bytes (fun s => { s with pc := poppedWord s, sp := s.sp + 2 }) :=
  runs_of_operation hb fun s => by rw [ho]; rfl

theorem runs_ret_if {i : Instr} {bytes : List Byte} {ccc : Cond} (hb : encode i = bytes)
    (ho : operationOf i = .ret (some ccc)) :
    Runs i bytes (fun s => if getFlag (condFlag ccc) s.flags = condValue ccc then
      { s with pc := poppedWord s, sp := s.sp + 2 } else s) :=
  runs_of_operation hb fun s => by simp only [ho, Operation.run, taken, condHolds_iff, returnFrom_eq]

/-! ## Calls -/

theorem wordStored_push16 (v : Word) {s : State} (hs : s.mem.wf) :
    WordStored s (push16 v s) (s.sp - 2) (s.sp - 1) v := by
  refine ⟨?_, ?_, fun a hlow hhigh => memRead_push16_other v hs hhigh hlow⟩
  · rw [memRead_push16_low v hs, loByte_toNat]
  · rw [memRead_push16_high v hs, hiByte_toNat]

theorem pushes_of_callTo {i : Instr} {s : State} {w : Word} (hs : s.mem.wf) (h : exec i s = .next (callTo w s)) :
    Pushes i s s.pc w :=
  ⟨callTo w s, h, rfl, wordStored_push16 s.pc hs⟩

theorem pushes_of_call {i : Instr} {s : State} {w : Word} (hs : s.mem.wf) (ho : operationOf i = .call none w) :
    Pushes i s s.pc w :=
  pushes_of_callTo hs (by rw [exec_eq_run, ho]; rfl)

theorem pushes_of_call_if {i : Instr} {s : State} {ccc : Cond} {w : Word} (hs : s.mem.wf)
    (ho : operationOf i = .call (some ccc) w) :
    if getFlag (condFlag ccc) s.flags = condValue ccc then Pushes i s s.pc w else exec i s = .next s := by
  have hexec : exec i s = .next (if getFlag (condFlag ccc) s.flags = condValue ccc then callTo w s else s) := by
    simp only [exec_eq_run, ho, Operation.run, taken, condHolds_iff]
  split
  case isTrue hc => exact pushes_of_callTo hs (by rw [hexec, if_pos hc])
  case isFalse hc => rw [hexec, if_neg hc]

end Sys2Proof.Machine
end

section
/-! PROOFS. Encoding, and the statements proved from it (30_encoding.md, 45_branch.md). -/

open Sys2Proof Sys2Proof.Machine Sys2Proof.Claims

/-- Settles O22: by the operand each format holds, from the agreement of the decoder with the opcode map. -/
theorem decodeOfEncodeIsTheInstruction : Obligations.DecodeOfEncodeIsTheInstruction :=
  fun i rest _ => decode_encode_append i rest

/-- Settles O23: the instruction decoded has the opcode byte and the operand bytes that were read. -/
theorem decodedBytesAreTheEncoding : Obligations.DecodedBytesAreTheEncoding :=
  fun _ _ _ h => eq_encode_append_of_decode h

/-- Settles O11: the bytes at PC decode to the instruction (`exists_decode_bytesFrom`), so it is the one fetched. -/
theorem stepRunsTheBytesOfAnInstruction : Obligations.StepRunsTheBytesOfAnInstruction := by
  intro s i hs h
  obtain ⟨rest, hd⟩ := exists_decode_bytesFrom h
  rw [step_of_running hs, fetchInstr_of_decode hd]

/-- Settles O24: by the format of the opcode byte and the bytes there are after it. -/
theorem everyOpcodeByteIsAnInstruction : Obligations.EveryOpcodeByteIsAnInstruction := by
  refine ⟨rfl, fun op rest => ⟨fun h => ?_, decode_of_short⟩⟩
  obtain ⟨i, _, hdec, -, rfl⟩ := decode_of_enough h
  exact ⟨i, hdec⟩

/-- Settles O26: by what the policy nop makes of each opcode byte. -/
theorem undocPolicyGovernsFiveOpcodesOnly : Obligations.UndocPolicyGovernsFiveOpcodesOnly := by
  refine ⟨fun op hop => ⟨?_, fun b1 b2 => ?_⟩, fun op hop => ⟨?_, fun b1 b2 => ?_⟩⟩
  · exact (formatUnder_nopForm op).trans (if_pos hop)
  · exact (decodeOpcodeUnder_nopForm op b1 b2).trans (if_pos hop)
  · exact (formatUnder_nopForm op).trans (if_neg hop)
  · exact (decodeOpcodeUnder_nopForm op b1 b2).trans (if_neg hop)

/-- Settles O46: JMP and Jcc are the operation jump, and a condition is a value of its flag. -/
theorem jumps : Obligations.Jumps := by
  intro x y
  have hb {i : Instr} {op : Byte} : i.opcode = op → i.immediate = .d16 (cat y x) → encode i = [op, x, y] :=
    encode_of_d16
  exact ⟨runs_jump (hb rfl rfl) rfl, runs_jump (hb rfl rfl) rfl, runs_of_operation rfl fun _ => rfl,
    runs_jump_if (ccc := .nz) (hb rfl rfl) rfl, runs_jump_if (ccc := .z) (hb rfl rfl) rfl,
    runs_jump_if (ccc := .nc) (hb rfl rfl) rfl, runs_jump_if (ccc := .c) (hb rfl rfl) rfl,
    runs_jump_if (ccc := .po) (hb rfl rfl) rfl, runs_jump_if (ccc := .pe) (hb rfl rfl) rfl,
    runs_jump_if (ccc := .p) (hb rfl rfl) rfl, runs_jump_if (ccc := .m) (hb rfl rfl) rfl⟩

/-- Settles O47: CALL and Ccc are the operation call, which pushes PC. -/
theorem calls : Obligations.Calls := by
  intro s x y hs
  exact ⟨⟨encode_of_d16 rfl rfl, pushes_of_call hs rfl⟩, ⟨encode_of_d16 rfl rfl, pushes_of_call hs rfl⟩,
    ⟨encode_of_d16 rfl rfl, pushes_of_call hs rfl⟩, ⟨encode_of_d16 rfl rfl, pushes_of_call hs rfl⟩,
    ⟨encode_of_d16 rfl rfl, pushes_of_call_if (ccc := .nz) hs rfl⟩,
    ⟨encode_of_d16 rfl rfl, pushes_of_call_if (ccc := .z) hs rfl⟩,
    ⟨encode_of_d16 rfl rfl, pushes_of_call_if (ccc := .nc) hs rfl⟩,
    ⟨encode_of_d16 rfl rfl, pushes_of_call_if (ccc := .c) hs rfl⟩,
    ⟨encode_of_d16 rfl rfl, pushes_of_call_if (ccc := .po) hs rfl⟩,
    ⟨encode_of_d16 rfl rfl, pushes_of_call_if (ccc := .pe) hs rfl⟩,
    ⟨encode_of_d16 rfl rfl, pushes_of_call_if (ccc := .p) hs rfl⟩,
    ⟨encode_of_d16 rfl rfl, pushes_of_call_if (ccc := .m) hs rfl⟩⟩

/-- Settles O48: RET and Rcc are the operation return, which pops PC. -/
theorem returns : Obligations.Returns :=
  ⟨runs_ret rfl rfl, runs_ret rfl rfl, runs_ret_if (ccc := .nz) rfl rfl, runs_ret_if (ccc := .z) rfl rfl,
    runs_ret_if (ccc := .nc) rfl rfl, runs_ret_if (ccc := .c) rfl rfl, runs_ret_if (ccc := .po) rfl rfl,
    runs_ret_if (ccc := .pe) rfl rfl, runs_ret_if (ccc := .p) rfl rfl, runs_ret_if (ccc := .m) rfl rfl⟩

/-- Settles O60: an instruction has the operation and the length of the documented one, whose encoding decodes. -/
theorem aliasBytesActAsDocumented : Obligations.AliasBytesActAsDocumented := by
  refine ⟨fun w => ⟨rfl, rfl, rfl, rfl, rfl⟩, by decide, fun i => ⟨fun s => ?_, length_documented i, rfl, ?_,
    opcode_documented_notMem i, documented_eq_self⟩⟩
  · rw [exec_eq_run, exec_eq_run, operationOf_documented]
  · simpa [assemble] using decode_encode_append i.documented []

/-- Settles O10: what decodes at PC is what is fetched. -/
theorem stepRunsTheDecodedInstruction : Obligations.StepRunsTheDecodedInstruction := by
  intro s i rest hs hd
  rw [step_of_running hs, fetchInstr_of_decode hd]

/-- Settles O25: by evaluation of the decoder on each word. -/
theorem wordsWrittenFromTheMapDecode : Obligations.WordsWrittenFromTheMapDecode := by
  unfold Obligations.WordsWrittenFromTheMapDecode
  and_intros <;> rfl

/-- Settles O28: MVI moves its byte into the register, LXI its word into the pair, whose halves are the operand bytes. -/
theorem immediateLoads : Obligations.ImmediateLoads := by
  intro v x y
  have hmvi {i : Instr} {op : Byte} {f : State → State} (hop : i.opcode = op) (hi : i.immediate = .d8 v) :
      (∀ s, (operationOf i).run s = f s) → Runs i [op, v] f := runs_of_operation (encode_of_d8 hop hi)
  have hlxi {i : Instr} {op : Byte} {f : State → State} (hop : i.opcode = op) (hi : i.immediate = .d16 (cat y x)) :
      (∀ s, (operationOf i).run s = f s) → Runs i [op, x, y] f := runs_of_operation (encode_of_d16 hop hi)
  exact ⟨hmvi rfl rfl fun _ => rfl, hmvi rfl rfl fun _ => rfl, hmvi rfl rfl fun _ => rfl, hmvi rfl rfl fun _ => rfl,
    hmvi rfl rfl fun _ => rfl, hmvi rfl rfl fun _ => rfl, hmvi rfl rfl fun _ => rfl, hlxi rfl rfl (setBc_cat y x),
    hlxi rfl rfl (setDe_cat y x), hlxi rfl rfl (setHl_cat y x), hlxi rfl rfl fun _ => rfl⟩

end

section
/-! SUPPORT. A store from its operation: the byte or the word it writes, and that all else stays (R63, R67). -/

namespace Sys2Proof.Machine
open Claims

theorem storesByte_of_operation {i : Instr} {bytes : List Byte} {addr : State → Word} {value : State → Byte}
    (hb : encode i = bytes) (hrun : ∀ s, (operationOf i).run s = memWrite (addr s) (value s) s) :
    StoresByte i bytes addr value := by
  refine ⟨hb, fun s hs => ⟨memWrite (addr s) (value s) s, ?_, rfl, ?_, fun a ha => ?_⟩⟩
  · rw [exec_eq_run, hrun]
  · exact memRead_memWrite_same (addr s) (value s) hs
  · exact memRead_memWrite_other ha (value s) hs

theorem wordStored_write16 (a v : Word) {s : State} (hs : s.mem.wf) : WordStored s (write16 a v s) a (a + 1) v := by
  refine ⟨?_, ?_, fun b hlow hhigh => memRead_write16_other v hlow hhigh hs⟩
  · rw [memRead_write16_low a v hs, loByte_toNat]
  · rw [memRead_write16_high a v hs, hiByte_toNat]

/-- XTHL stores HL at SP and loads HL from the bytes that were there before (R297, the spec's decision D15). -/
theorem exchangeTop_eq (s : State) :
    exchangeTop s =
      { s with mem := (write16 s.sp (hl s) s).mem, l := memRead s.sp s, h := memRead (s.sp + 1) s } :=
  setHl_cat (memRead (s.sp + 1) s) (memRead s.sp s) (write16 s.sp (hl s) s)

end Sys2Proof.Machine
end

section
/-! PROOFS. The data moves and XTHL (41_data_move.md, 46_stack_exchange.md). -/

open Sys2Proof Sys2Proof.Machine Sys2Proof.Claims

/-- Settles O30: each is the operation that writes one byte, at HL, at BC or DE, or at the operand. -/
theorem byteStores : Obligations.ByteStores := by
  intro v x y
  have hmov {i : Instr} {op : Byte} {addr : State → Word} {value : State → Byte} (hop : i.opcode = op)
      (hi : i.immediate = .none) :
      (∀ s, (operationOf i).run s = memWrite (addr s) (value s) s) → StoresByte i [op] addr value :=
    storesByte_of_operation (encode_of_none hop hi)
  exact ⟨hmov rfl rfl fun _ => rfl, hmov rfl rfl fun _ => rfl, hmov rfl rfl fun _ => rfl, hmov rfl rfl fun _ => rfl,
    hmov rfl rfl fun _ => rfl, hmov rfl rfl fun _ => rfl, hmov rfl rfl fun _ => rfl,
    storesByte_of_operation (encode_of_d8 rfl rfl) fun _ => rfl, hmov rfl rfl fun _ => rfl,
    hmov rfl rfl fun _ => rfl, storesByte_of_operation (encode_of_d16 rfl rfl) fun _ => rfl⟩

/-- Settles O31: SHLD is `Write16` of HL, XTHL the same at SP with HL loaded from the bytes that were there. -/
theorem shldAndXthlStoreHl : Obligations.ShldAndXthlStoreHl := by
  intro x y
  refine ⟨encode_of_d16 rfl rfl, encode_of_none rfl rfl, fun s hs =>
    ⟨⟨write16 (cat y x) (hl s) s, exec_shld _ s, rfl, ?_⟩, ⟨exchangeTop s, exec_xthl s, exchangeTop_eq s, ?_⟩⟩⟩
  · exact wordStored_write16 (cat y x) (hl s) hs
  · exact wordStored_write16 s.sp (hl s) hs

/-- Settles O27: each of the 56 is the operation that moves a register or the byte at HL into a register. -/
theorem movIntoARegister : Obligations.MovIntoARegister := by
  have hmov {i : Instr} {op : Byte} {f : State → State} (hop : i.opcode = op) (hi : i.immediate = .none) :
      (∀ s, (operationOf i).run s = f s) → Runs i [op] f := runs_of_operation (encode_of_none hop hi)
  unfold Obligations.MovIntoARegister
  iterate 55 refine ⟨hmov rfl rfl fun _ => rfl, ?_⟩
  exact hmov rfl rfl fun _ => rfl

/-- Settles O29: LDAX and LDA move a byte of memory into A, LHLD the word `Read16` gives into HL. -/
theorem loadsFromMemory : Obligations.LoadsFromMemory := by
  intro x y
  exact ⟨runs_of_operation (encode_of_none rfl rfl) fun _ => rfl,
    runs_of_operation (encode_of_none rfl rfl) fun _ => rfl,
    runs_of_operation (encode_of_d16 rfl rfl) fun _ => rfl,
    runs_of_operation (encode_of_d16 rfl rfl) fun s =>
      setHl_cat (memRead (cat y x + 1) s) (memRead (cat y x) s) s⟩

end

section
/-! SUPPORT. The 8-bit arithmetic and logical statements from an instruction's operation: the result and the flags of the
flag engine's function it applies (40_flag_engine.md R121 to R133). -/

namespace Sys2Proof.Machine
open Claims

/-- Even many elements satisfy a test exactly when the tests' XOR is 0. -/
theorem even_length_filter_eq_not_xor {α : Type} (p : α → Bool) (l : List α) :
    decide ((l.filter p).length % 2 = 0) = !l.foldr (fun k x => x ^^ p k) false := by
  induction l with
  | nil => rfl
  | cons k l ih =>
    cases hk : p k
    case false => simpa [hk] using ih
    case true =>
      have hsucc : decide (((l.filter p).length + 1) % 2 = 0) = !decide ((l.filter p).length % 2 = 0) := by
        rw [← decide_not, decide_eq_decide]; omega
      simpa [hk, ih] using hsucc

/-- P as the engine computes it, the XOR of the bits, is the parity of how many are set (R14, R121). -/
theorem parityEven_eq_evenOnes (v : Byte) : parityEven v = evenOnes v := by
  have hbits : List.range 8 = [0, 1, 2, 3, 4, 5, 6, 7] := rfl
  rw [evenOnes, even_length_filter_eq_not_xor, parityEven, hbits]
  simp only [List.foldr_cons, List.foldr_nil, Bool.false_xor]

theorem szpFrom_resultWith (r : Byte) (ac cy : Bool) : SzpFrom r (resultWith r ac cy).flags :=
  ⟨resultWith_s r ac cy, resultWith_z r ac cy, (resultWith_p r ac cy).trans (parityEven_eq_evenOnes r)⟩

theorem difference_sub8 (a b : Byte) (c : Bool) : Difference a b c (sub8 a b c).res (sub8 a b c).flags := by
  rw [Difference, ← bit_eq_toNat]
  exact ⟨sub8_res a b c, szpFrom_resultWith _ _ _, sub8_cy a b c, sub8_ac a b c⟩

section
variable {i : Instr} {bytes : List Byte} (hb : encode i = bytes)
include hb

theorem addsToA_of_operation {operand : State → Byte} {carryIn : State → Bool}
    (hrun : ∀ s, (operationOf i).run s = applyToA (add8 s.a (operand s) (carryIn s)) s) :
    AddsToA i bytes operand carryIn := by
  refine ⟨hb, fun s => ⟨_, _, (exec_eq_run i s).trans (congrArg _ (hrun s)), ?_⟩⟩
  rw [← bit_eq_toNat]
  exact ⟨add8_res _ _ _, szpFrom_resultWith _ _ _, add8_cy _ _ _, add8_ac _ _ _⟩

theorem subtractsFromA_of_operation {operand : State → Byte} {borrowIn : State → Bool}
    (hrun : ∀ s, (operationOf i).run s = applyToA (sub8 s.a (operand s) (borrowIn s)) s) :
    SubtractsFromA i bytes operand borrowIn :=
  ⟨hb, fun s => ⟨_, _, (exec_eq_run i s).trans (congrArg _ (hrun s)), difference_sub8 _ _ _⟩⟩

theorem comparesWithA_of_operation {operand : State → Byte}
    (hrun : ∀ s, (operationOf i).run s = aluCmp (operand s) s) : ComparesWithA i bytes operand :=
  ⟨hb, fun s => ⟨_, _, (exec_eq_run i s).trans (congrArg _ (hrun s)), difference_sub8 _ _ _⟩⟩

theorem combinesIntoA_of_operation {result : State → Byte} {ac : State → Bool}
    (hrun : ∀ s, (operationOf i).run s = applyToA (resultWith (result s) (ac s) false) s) :
    CombinesIntoA i bytes result ac :=
  ⟨hb, fun s => ⟨_, (exec_eq_run i s).trans (congrArg _ (hrun s)), szpFrom_resultWith _ _ _, rfl, rfl⟩⟩

end

end Sys2Proof.Machine
end

section
/-! SUPPORT. DAA after an addition of two-digit decimal numbers: each of its two corrections is made exactly when the
decimal sum carries out of that digit (44_rotate_special.md R224, the spec's decision D8). -/

namespace Sys2Proof.Machine
open Claims

theorem bit_decide (p : Prop) [Decidable p] : bit (decide p) = if p then 1 else 0 := by simp [bit]

/-- A after `Add8` of two bytes and DAA, with the flags. -/
def addThenDaa (a b : Byte) : AluResult := daa8 (add8 a b false).res (add8 a b false).flags

section
variable {a b : Byte} (ha : IsBcd a) (hb : IsBcd b)
include ha hb

theorem addThenDaa_ac : (addThenDaa a b).flags.ac = decide (a.toNat % 16 + b.toNat % 16 > 9) := by
  obtain ⟨haLow, haHigh⟩ := ha
  obtain ⟨hbLow, hbHigh⟩ := hb
  rw [addThenDaa, daa8_ac, add8_res, add8_ac, bit_false, ← Bool.decide_or, decide_eq_decide]
  omega

theorem addThenDaa_cy : (addThenDaa a b).flags.cy = decide (bcdValue a + bcdValue b > 99) := by
  obtain ⟨haLow, haHigh⟩ := ha
  obtain ⟨hbLow, hbHigh⟩ := hb
  rw [addThenDaa, daa8_cy, add8_res, add8_cy, bit_false, ← Bool.decide_or, decide_eq_decide, bcdValue, bcdValue]
  omega

/-- The low correction adds 6; the high one takes 160 from the sum and puts its carry in CY. -/
theorem addThenDaa_res : (addThenDaa a b).res.toNat + 160 * bit (addThenDaa a b).flags.cy =
    a.toNat + b.toNat + 6 * bit (addThenDaa a b).flags.ac := by
  have hres : (addThenDaa a b).res.toNat =
      ((a.toNat + b.toNat) % 256 + 6 * bit (addThenDaa a b).flags.ac + 96 * bit (addThenDaa a b).flags.cy) % 256 := by
    rw [addThenDaa, daa8_res, add8_res, bit_false, Nat.add_zero]
  rw [hres, addThenDaa_ac ha hb, addThenDaa_cy ha hb, bit_decide, bit_decide]
  obtain ⟨haLow, haHigh⟩ := ha
  obtain ⟨hbLow, hbHigh⟩ := hb
  unfold bcdValue
  split_ifs <;> omega

/-- The result is the decimal sum, its hundreds in CY. -/
theorem addThenDaa_decimal : IsBcd (addThenDaa a b).res ∧
    100 * (addThenDaa a b).flags.cy.toNat + bcdValue (addThenDaa a b).res = bcdValue a + bcdValue b := by
  have hres := addThenDaa_res ha hb
  rw [addThenDaa_ac ha hb, addThenDaa_cy ha hb, bit_decide, bit_decide] at hres
  rw [addThenDaa_cy ha hb, ← bit_eq_toNat, bit_decide]
  obtain ⟨haLow, haHigh⟩ := ha
  obtain ⟨hbLow, hbHigh⟩ := hb
  unfold IsBcd
  unfold bcdValue at *
  split_ifs at hres ⊢ <;> omega

end

end Sys2Proof.Machine
end

section
/-! PROOFS. The 8-bit arithmetic and logical instructions (42_arith_logic.md), and decimal addition. -/

open Sys2Proof Sys2Proof.Machine Sys2Proof.Claims

/-- Settles O32: each ADD is `Add8` of A and its operand, with no carry-in. -/
theorem addRegisterAndMemory : Obligations.AddRegisterAndMemory := by
  unfold Obligations.AddRegisterAndMemory
  iterate 7 refine ⟨addsToA_of_operation rfl fun _ => rfl, ?_⟩
  exact addsToA_of_operation rfl fun _ => rfl

/-- Settles O33: each is `Add8` of A and its operand, with the old CY as the carry-in for ADC and ACI. -/
theorem addWithCarryAndAddImmediate : Obligations.AddWithCarryAndAddImmediate := by
  intro v
  iterate 9 refine ⟨addsToA_of_operation rfl fun _ => rfl, ?_⟩
  exact addsToA_of_operation rfl fun _ => rfl

/-- Settles O34: SUB is `Sub8` of A and its operand; CMP has its flags and leaves A. -/
theorem subtractAndCompareRegisterAndMemory : Obligations.SubtractAndCompareRegisterAndMemory := by
  unfold Obligations.SubtractAndCompareRegisterAndMemory
  iterate 8 refine ⟨subtractsFromA_of_operation rfl fun _ => rfl, ?_⟩
  iterate 7 refine ⟨comparesWithA_of_operation rfl fun _ => rfl, ?_⟩
  exact comparesWithA_of_operation rfl fun _ => rfl

/-- Settles O35: each is `Sub8` of A and its operand, with the old CY as the borrow-in for SBB and SBI; CPI leaves A. -/
theorem subtractWithBorrowAndImmediate : Obligations.SubtractWithBorrowAndImmediate := by
  intro v
  iterate 10 refine ⟨subtractsFromA_of_operation rfl fun _ => rfl, ?_⟩
  exact comparesWithA_of_operation rfl fun _ => rfl

/-- Settles O36: each result is `And8`, `Xor8` or `Or8` of A and the operand, which clear CY. -/
theorem logicalRegisterAndMemory : Obligations.LogicalRegisterAndMemory := by
  unfold Obligations.LogicalRegisterAndMemory
  iterate 23 refine ⟨combinesIntoA_of_operation rfl fun _ => rfl, ?_⟩
  exact combinesIntoA_of_operation rfl fun _ => rfl

/-- Settles O37: as O36, with the immediate byte as the operand. -/
theorem logicalImmediate : Obligations.LogicalImmediate := by
  intro v
  iterate 2 refine ⟨combinesIntoA_of_operation rfl fun _ => rfl, ?_⟩
  exact combinesIntoA_of_operation rfl fun _ => rfl

/-- Settles O44: each ADD applies `aluAdd` to its operand, and DAA then makes the sum decimal. -/
theorem bcdAdditionThroughDaa : Obligations.BcdAdditionThroughDaa := by
  intro s ha p hp hb
  have hadd : exec p.1 s = .next (aluAdd p.2 s) := by
    fin_cases hp <;> rfl
  exact ⟨_, _, hadd, exec_daa _, rfl, addThenDaa_decimal ha hb⟩

end

section
/-! SUPPORT. Increment, decrement and DAD from an instruction's operation (43_incdec_dad.md R200 to R206). -/

namespace Sys2Proof.Machine
open Claims

/-! ## One byte -/

theorem incremented_inc8 (v : Byte) (f : Flags) : Incremented v f (inc8 v f.cy).res (inc8 v f.cy).flags :=
  ⟨inc8_res v f.cy, szpFrom_resultWith _ _ _, inc8_ac v f.cy, inc8_cy v f.cy⟩

theorem decremented_dec8 (v : Byte) (f : Flags) : Decremented v f (dec8 v f.cy).res (dec8 v f.cy).flags :=
  ⟨dec8_res v f.cy, szpFrom_resultWith _ _ _, dec8_ac v f.cy, dec8_cy v f.cy⟩

section
variable {i : Instr} {Changed : Byte → Flags → Byte → Flags → Prop} {step8 : Byte → Bool → AluResult}
  (hstep : ∀ v f, Changed v f (step8 v f.cy).res (step8 v f.cy).flags)
include hstep

theorem stepsRegister_of_operation {bytes : List Byte} {get : State → Byte} {put : Byte → State → State}
    (hb : encode i = bytes)
    (hrun : ∀ s, (operationOf i).run s =
      { put (step8 (get s) s.flags.cy).res s with flags := (step8 (get s) s.flags.cy).flags }) :
    StepsRegister i bytes Changed get put :=
  ⟨hb, fun s => ⟨_, _, (exec_eq_run i s).trans (congrArg _ (hrun s)), hstep (get s) s.flags⟩⟩

/-- The byte at HL is read, changed and stored, and no other byte is (R201, R203). -/
theorem stepsMemory_of_operation {s : State} (hs : s.mem.wf)
    (hrun : (operationOf i).run s =
      { memWrite (hl s) (step8 (memRead (hl s) s) s.flags.cy).res s with
        flags := (step8 (memRead (hl s) s) s.flags.cy).flags }) :
    ∃ (t : State) (f : Flags), exec i s = .next t ∧ t = { s with mem := t.mem, flags := f } ∧
      Changed (memRead (hl s) s) s.flags (memRead (hl s) t) f ∧ ∀ a, a ≠ hl s → memRead a t = memRead a s := by
  refine ⟨_, _, (exec_eq_run i s).trans (congrArg _ hrun), rfl, ?_, fun a ha => memRead_memWrite_other ha _ hs⟩
  exact (memRead_memWrite_same (hl s) (step8 (memRead (hl s) s) s.flags.cy).res hs).symm ▸ hstep _ s.flags

end

/-! ## Pairs -/

theorem setBc_eq_extract (v : Word) (s : State) :
    setBc v s = { s with b := v.extractLsb' 8 8, c := v.extractLsb' 0 8 } := by
  rw [setBc, hiByte_eq_extract, loByte_eq_extract]

theorem setDe_eq_extract (v : Word) (s : State) :
    setDe v s = { s with d := v.extractLsb' 8 8, e := v.extractLsb' 0 8 } := by
  rw [setDe, hiByte_eq_extract, loByte_eq_extract]

theorem setHl_eq_extract (v : Word) (s : State) :
    setHl v s = { s with h := v.extractLsb' 8 8, l := v.extractLsb' 0 8 } := by
  rw [setHl, hiByte_eq_extract, loByte_eq_extract]

/-- HL is the 16-bit sum and CY its carry; the other flags stay (R206). -/
theorem addPairToHl_eq (p : RegPair) (s : State) :
    addPairToHl p s =
      { s with h := (hl s + getRP p s).extractLsb' 8 8, l := (hl s + getRP p s).extractLsb' 0 8,
               flags := { s.flags with cy := decide ((hl s).toNat + (getRP p s).toNat ≥ 65536) } } := by
  have hsum : BitVec.ofNat 16 ((hl s).toNat + (getRP p s).toNat) = hl s + getRP p s := by
    rw [BitVec.ofNat_add, BitVec.ofNat_toNat, BitVec.ofNat_toNat, BitVec.setWidth_eq, BitVec.setWidth_eq]
  rw [addPairToHl, hsum, setHl_eq_extract]
  rfl

theorem setRP_setRP (p : RegPair) (v w : Word) (s : State) : setRP p v (setRP p w s) = setRP p v s := by
  cases p <;> rfl

/-- A pair decremented and incremented is as it was. -/
theorem incPair_decPair (p : RegPair) (s : State) : incPair p (decPair p s) = s := by
  rw [incPair, decPair, getRP_setRP, setRP_setRP, BitVec.sub_add_cancel, setRP_getRP]

end Sys2Proof.Machine
end

section
/-! SUPPORT. Sequences of instructions, and the rotates made as often as the register they turn has bits: A's eight for RLC
and RRC, those and CY for RAL and RAR (44_rotate_special.md R220 to R223). -/

namespace Sys2Proof.Machine

/-- Instructions executed one after the other run their operations one after the other: each of them completes. -/
theorem foldl_exec {f : Host.Outcome State Fault Refusal → Instr → Host.Outcome State Fault Refusal}
    (hf : ∀ s i, f (.next s) i = exec i s) (is : List Instr) (s : State) :
    is.foldl f (.next s) = .next (is.foldl (fun t i => (operationOf i).run t) s) := by
  induction is generalizing s with
  | nil => rfl
  | cons i is ih => rw [List.foldl_cons, hf, exec_eq_run, ih, List.foldl_cons]

theorem foldl_run_replicate (n : Nat) (i : Instr) (s : State) :
    (List.replicate n i).foldl (fun t i => (operationOf i).run t) s = (operationOf i).run^[n] s := by
  induction n generalizing s with
  | zero => rfl
  | succ n ih => rw [List.replicate_succ, List.foldl_cons, ih, Function.iterate_succ_apply]

/-- XCHG exchanges the four bytes, so twice it changes nothing (R296). -/
theorem xchg_xchg (s : State) : Operation.run .xchg (Operation.run .xchg s) = s := by
  have hxchg (t : State) : Operation.run .xchg t = { t with d := t.h, e := t.l, h := t.d, l := t.e } := by
    simp only [Operation.run, setHl, setDe, hl, de, hiByte_cat, loByte_cat]
  rw [hxchg, hxchg]

/-! ## Bits that turn -/

/-- `f` turns the `m` bits that `bits` reads by `d` places. -/
def Turns (f : State → State) (bits : State → Nat → Bool) (m d : Nat) : Prop :=
  ∀ s, ∀ k < m, bits (f s) k = bits s ((k + d) % m)

theorem Turns.iterate {f : State → State} {bits : State → Nat → Bool} {m d : Nat} (h : Turns f bits m d) (n : Nat) :
    Turns f^[n] bits m (n * d) := by
  intro s k hk
  induction n generalizing k with
  | zero => rw [Nat.zero_mul, Nat.add_zero, Nat.mod_eq_of_lt hk]; rfl
  | succ n ih =>
    rw [Function.iterate_succ_apply', h _ k hk, ih _ (Nat.mod_lt _ (by omega)), Nat.mod_add_mod]
    congr 2; rw [Nat.succ_mul]; omega

/-- Bits turned as often as there are bits are as they were. -/
theorem Turns.iterate_period {f : State → State} {bits : State → Nat → Bool} {m d : Nat} (h : Turns f bits m d)
    (s : State) {k : Nat} (hk : k < m) : bits (f^[m] s) k = bits s k := by
  rw [h.iterate m s k hk, Nat.add_mul_mod_self_left, Nat.mod_eq_of_lt hk]

/-- The nine bits RAL and RAR turn: A's, and CY as bit 8 (R222, R223). -/
def bitsWithCy (s : State) (k : Nat) : Bool := if k = 8 then s.flags.cy else s.a.getLsbD k

theorem bitsWithCy_of_lt (s : State) {k : Nat} (hk : k < 8) : bitsWithCy s k = s.a.getLsbD k := if_neg hk.ne

theorem rotateLeft_getLsbD (x : Bool) (s : State) {k : Nat} (hk : k < 8) :
    (rotateLeft x s).a.getLsbD k = if k = 0 then x else s.a.getLsbD (k - 1) := by
  obtain ⟨hzero, hsucc⟩ := rotateLeft_bits x s
  cases k with
  | zero => exact hzero
  | succ k => exact hsucc k (by omega)

theorem rotateRight_getLsbD (x : Bool) (s : State) {k : Nat} (hk : k < 8) :
    (rotateRight x s).a.getLsbD k = if k = 7 then x else s.a.getLsbD (k + 1) := by
  obtain ⟨hlast, hother⟩ := rotateRight_bits x s
  split
  case isTrue h => rw [h, hlast]
  case isFalse h => exact hother k (by omega)

theorem turns_rlc : Turns (Operation.run .rlc) (fun s => s.a.getLsbD) 8 7 := by
  intro s k hk
  refine (rotateLeft_getLsbD (s.a.getLsbD 7) s hk).trans ?_
  interval_cases k <;> rfl

theorem turns_rrc : Turns (Operation.run .rrc) (fun s => s.a.getLsbD) 8 1 := by
  intro s k hk
  refine (rotateRight_getLsbD (s.a.getLsbD 0) s hk).trans ?_
  interval_cases k <;> rfl

theorem turns_ral : Turns (Operation.run .ral) bitsWithCy 9 8 := by
  intro s k hk
  obtain rfl | hlt : k = 8 ∨ k < 8 := by omega
  · rfl
  · refine (bitsWithCy_of_lt _ hlt).trans ((rotateLeft_getLsbD s.flags.cy s hlt).trans ?_)
    interval_cases k <;> rfl

theorem turns_rar : Turns (Operation.run .rar) bitsWithCy 9 1 := by
  intro s k hk
  obtain rfl | hlt : k = 8 ∨ k < 8 := by omega
  · rfl
  · refine (bitsWithCy_of_lt _ hlt).trans ((rotateRight_getLsbD s.flags.cy s hlt).trans ?_)
    interval_cases k <;> rfl

/-! ## What rotates leave -/

/-- `t` is `s` but for A and CY. -/
def SameButAAndCy (s t : State) : Prop := t = { s with a := t.a, flags := { s.flags with cy := t.flags.cy } }

theorem sameButAAndCy_iterate {f : State → State} (h : ∀ s, SameButAAndCy s (f s)) (n : Nat) (s : State) :
    SameButAAndCy s (f^[n] s) := by
  induction n with
  | zero => rfl
  | succ n ih =>
    rw [Function.iterate_succ_apply']
    have hn := h (f^[n] s)
    rw [SameButAAndCy] at ih hn ⊢
    rw [hn, ih]

/-- A rotate that turns A's eight bits leaves A after eight times, and all but the flags. -/
theorem iterate_eq_of_turns_a {f : State → State} {d : Nat} (hf : Turns f (fun s => s.a.getLsbD) 8 d)
    (hsame : ∀ s, SameButAAndCy s (f s)) (s : State) : ∃ fl, f^[8] s = { s with flags := fl } := by
  have ha : (f^[8] s).a = s.a := BitVec.eq_of_getLsbD_eq fun _ hk => hf.iterate_period s hk
  exact ⟨_, (sameButAAndCy_iterate hsame 8 s).trans (by rw [ha])⟩

/-- A rotate that turns A's bits and CY leaves the state after nine times. -/
theorem iterate_eq_of_turns_aAndCy {f : State → State} {d : Nat} (hf : Turns f bitsWithCy 9 d)
    (hsame : ∀ s, SameButAAndCy s (f s)) (s : State) : f^[9] s = s := by
  have hcy : (f^[9] s).flags.cy = s.flags.cy := hf.iterate_period s (k := 8) (by omega)
  have ha : (f^[9] s).a = s.a := BitVec.eq_of_getLsbD_eq fun k hk => by
    simpa only [bitsWithCy_of_lt _ hk] using hf.iterate_period s (k := k) (by omega)
  exact (sameButAAndCy_iterate hsame 9 s).trans (by rw [ha, hcy])

end Sys2Proof.Machine
end

section
/-! PROOFS. Increment, decrement and 16-bit add (43_incdec_dad.md), and the laws of sequences. -/

open Sys2Proof Sys2Proof.Machine Sys2Proof.Claims

/-- Settles O38: INR is `Inc8` and DCR `Dec8` of the register, with the old CY. -/
theorem incrementAndDecrementRegister : Obligations.IncrementAndDecrementRegister := by
  unfold Obligations.IncrementAndDecrementRegister
  iterate 7 refine ⟨stepsRegister_of_operation incremented_inc8 rfl fun _ => rfl, ?_⟩
  iterate 6 refine ⟨stepsRegister_of_operation decremented_dec8 rfl fun _ => rfl, ?_⟩
  exact stepsRegister_of_operation decremented_dec8 rfl fun _ => rfl

/-- Settles O39: as O38, with the byte at HL as the operand. -/
theorem incrementAndDecrementMemory : Obligations.IncrementAndDecrementMemory :=
  ⟨rfl, rfl, fun _ hs =>
    ⟨stepsMemory_of_operation incremented_inc8 hs rfl, stepsMemory_of_operation decremented_dec8 hs rfl⟩⟩

/-- Settles O40: the pair is written as a word, that is, both its bytes. -/
theorem incrementAndDecrementPair : Obligations.IncrementAndDecrementPair :=
  ⟨runs_of_operation rfl fun s => setBc_eq_extract (bc s + 1) s,
    runs_of_operation rfl fun s => setDe_eq_extract (de s + 1) s,
    runs_of_operation rfl fun s => setHl_eq_extract (hl s + 1) s,
    runs_of_operation rfl fun _ => rfl,
    runs_of_operation rfl fun s => setBc_eq_extract (bc s - 1) s,
    runs_of_operation rfl fun s => setDe_eq_extract (de s - 1) s,
    runs_of_operation rfl fun s => setHl_eq_extract (hl s - 1) s,
    runs_of_operation rfl fun _ => rfl⟩

/-- Settles O41: by what DAD leaves of each pair added to HL. -/
theorem doubleAdd : Obligations.DoubleAdd :=
  ⟨runs_of_operation rfl (addPairToHl_eq .bc), runs_of_operation rfl (addPairToHl_eq .de),
    runs_of_operation rfl (addPairToHl_eq .hl), runs_of_operation rfl (addPairToHl_eq .sp)⟩

/-- Settles O56: the operations one after the other; the rotates by the bits they turn (`Turns`). -/
theorem algebraicLaws : Obligations.AlgebraicLaws := by
  intro s seq
  have hseq (is : List Instr) : seq is = .next (is.foldl (fun t i => (operationOf i).run t) s) :=
    foldl_exec (fun _ _ => rfl) is s
  simp only [hseq, foldl_run_replicate, Host.Outcome.next.injEq]
  refine ⟨?cma, ?xchg, ?pairs, ?rlc, ?rrc, ?ral, ?rar, rfl⟩
  case cma =>
    have hnot : ~~~(~~~s.a) = s.a := BitVec.not_not
    exact congrArg (fun x => { s with a := x }) hnot
  case xchg => exact xchg_xchg s
  case pairs =>
    intro p hp
    have hpair : ∃ rp, operationOf p.1 = .incPair rp ∧ operationOf p.2 = .decPair rp := by
      fin_cases hp <;> exact ⟨_, rfl, rfl⟩
    obtain ⟨rp, hinc, hdec⟩ := hpair
    simp only [List.foldl_cons, List.foldl_nil, hinc, hdec, Operation.run]
    exact ⟨decPair_incPair rp s, incPair_decPair rp s⟩
  case rlc => exact iterate_eq_of_turns_a turns_rlc (fun _ => rfl) s
  case rrc => exact iterate_eq_of_turns_a turns_rrc (fun _ => rfl) s
  case ral => exact iterate_eq_of_turns_aAndCy turns_ral (fun _ => rfl) s
  case rar => exact iterate_eq_of_turns_aAndCy turns_rar (fun _ => rfl) s

end

section
/-! SUPPORT. What DAA and CMA leave in A, in the words of their rules (44_rotate_special.md R224, R225). -/

namespace Sys2Proof.Machine
open Claims

theorem szpFrom_daa8 (a : Byte) (f : Flags) : SzpFrom (daa8 a f).res (daa8 a f).flags := szpFrom_resultWith _ _ _

/-- Complementing each bit is the subtraction from 0xFF (R225). -/
theorem not_eq_ff_sub (v : Byte) : ~~~v = 0xFF - v := (BitVec.allOnes_sub_eq_not v).symm

end Sys2Proof.Machine
end

section
/-! PROOFS. The rotates, DAA, CMA, STC and CMC (44_rotate_special.md). -/

open Sys2Proof Sys2Proof.Machine Sys2Proof.Claims

/-- Settles O42: each is a rotate by one place; the bit that comes in is the one rotated out for RLC and RRC, the old CY
for RAL and RAR. -/
theorem rotates : Obligations.Rotates := by
  refine ⟨⟨rfl, rfl, rfl, rfl⟩, fun s => ⟨?rlc, ?rrc, ?ral, ?rar⟩⟩
  case rlc => exact ⟨_, exec_rlc s, rotateLeft_bits (s.a.getLsbD 7) s⟩
  case rrc => exact ⟨_, exec_rrc s, rotateRight_bits (s.a.getLsbD 0) s⟩
  case ral => exact ⟨_, exec_ral s, rotateLeft_bits s.flags.cy s⟩
  case rar => exact ⟨_, exec_rar s, rotateRight_bits s.flags.cy s⟩

/-- Settles O43: DAA leaves in A and the flags what `daa8` gives. -/
theorem decimalAdjustFollowsItsRule : Obligations.DecimalAdjustFollowsItsRule := by
  refine ⟨rfl, fun s => ⟨_, _, exec_daa s, daa8_ac s.a s.flags, daa8_cy s.a s.flags, ?_, szpFrom_daa8 s.a s.flags⟩⟩
  rw [← bit_eq_toNat, ← bit_eq_toNat]
  exact daa8_res s.a s.flags

/-- Settles O45: STC and CMC write CY alone; CMA complements A, which is the subtraction from 0xFF. -/
theorem complementAndCarryInstructions : Obligations.ComplementAndCarryInstructions :=
  ⟨runs_of_operation rfl fun s => congrArg (fun r => { s with a := r }) (not_eq_ff_sub s.a),
    runs_of_operation rfl fun _ => rfl, runs_of_operation rfl fun _ => rfl⟩

end

section
/-! PROOFS. The restarts (45_control_transfer.md). -/

open Sys2Proof Sys2Proof.Machine Sys2Proof.Claims

/-- Settles O49: RST n is the operation call of the address 8n, taken always. -/
theorem restarts : Obligations.Restarts := by
  intro s hs
  have hrst {i : Instr} {op : Byte} {w : Word} (hb : encode i = [op]) (ho : operationOf i = .call none w) :
      encode i = [op] ∧ Pushes i s s.pc w := ⟨hb, pushes_of_call hs ho⟩
  exact ⟨hrst rfl rfl, hrst rfl rfl, hrst rfl rfl, hrst rfl rfl, hrst rfl rfl, hrst rfl rfl, hrst rfl rfl, hrst rfl rfl⟩

end

section
/-! SUPPORT. The stack and exchange statements from an instruction's operation: a push, a pop, and a pop of what a push
left on top of the stack (46_stack_exchange.md R290 to R298). -/

namespace Sys2Proof.Machine
open Claims

theorem setPsw_cat (y x : Byte) (s : State) : setPsw (cat y x) s = { s with a := y, flags := flagsOfByte x } := by
  simp [setPsw]

theorem pushes_of_push {i : Instr} {s : State} {p : StackPair} (hs : s.mem.wf) (ho : operationOf i = .push p) :
    Pushes i s (getStackPair p s) s.pc :=
  ⟨pushPair p s, by rw [exec_eq_run, ho]; rfl, rfl, wordStored_push16 (getStackPair p s) hs⟩

/-- What a pop takes depends on SP and the two bytes on top of the stack alone (R291). -/
theorem popValue_of_topWordKept {t v : State} (h : TopWordKept t v) : popValue v = popValue t := by
  obtain ⟨hsp, hlow, hhigh⟩ := h
  rw [popValue, popValue, read16, read16, hsp, hlow, hhigh]

/-- The word and the SP a pop gives where the pair a push stored is still on top of the stack (R290, R291). -/
theorem popPair_of_pushed {p : StackPair} {s v : State} (hs : s.mem.wf) (hv : TopWordKept (pushPair p s) v) :
    popPair p v = setStackPair p (getStackPair p s) { v with sp := s.sp } := by
  have hword : popValue v = getStackPair p s :=
    (popValue_of_topWordKept hv).trans (popValue_push16 (getStackPair p s) hs)
  have hdrop : dropStack v = { v with sp := s.sp } := by
    rw [dropStack, hv.1, pushPair_sp, BitVec.sub_add_cancel]
  rw [popPair, hword, hdrop]

/-- A push completes, and the mirrored pop then completes with the pair put back and SP as it was before the push. -/
theorem pop_restores_of_push {i j : Instr} {s : State} {p : StackPair} {f : State → State} (hs : s.mem.wf)
    (hi : operationOf i = .push p) (hj : operationOf j = .pop p)
    (hf : ∀ v : State, setStackPair p (getStackPair p s) { v with sp := s.sp } = f v) :
    ∃ t, exec i s = .next t ∧ ∀ v, TopWordKept t v → exec j v = .next (f v) := by
  refine ⟨pushPair p s, by rw [exec_eq_run, hi]; rfl, fun v hv => ?_⟩
  rw [exec_eq_run, hj, ← hf v, ← popPair_of_pushed hs hv]
  rfl

/-- XCHG exchanges D with H and E with L (R296). -/
theorem run_xchg (s : State) : Operation.run .xchg s = { s with d := s.h, e := s.l, h := s.d, l := s.e } :=
  (setHl_cat s.d s.e (setDe (hl s) s)).trans (by rw [hl, setDe_cat])

end Sys2Proof.Machine
end

section
/-! PROOFS. The stack and exchange instructions (46_stack_exchange.md). -/

open Sys2Proof Sys2Proof.Machine Sys2Proof.Claims

/-- Settles O50: PUSH is the operation push of its pair, which stores the pair's word below SP. -/
theorem pushesOfPairs : Obligations.PushesOfPairs := by
  intro s hs
  exact ⟨⟨rfl, pushes_of_push (p := .bc) hs rfl⟩, ⟨rfl, pushes_of_push (p := .de) hs rfl⟩,
    ⟨rfl, pushes_of_push (p := .hl) hs rfl⟩, ⟨rfl, pushes_of_push (p := .psw) hs rfl⟩⟩

/-- Settles O51: POP writes the word on top of the stack into its pair, whose halves are the two bytes. -/
theorem popsOfPairs : Obligations.PopsOfPairs :=
  ⟨runs_of_operation rfl fun s => setBc_cat (memRead (s.sp + 1) s) (memRead s.sp s) (dropStack s),
    runs_of_operation rfl fun s => setDe_cat (memRead (s.sp + 1) s) (memRead s.sp s) (dropStack s),
    runs_of_operation rfl fun s => setHl_cat (memRead (s.sp + 1) s) (memRead s.sp s) (dropStack s),
    runs_of_operation rfl fun s => setPsw_cat (memRead (s.sp + 1) s) (memRead s.sp s) (dropStack s)⟩

/-- Settles O52: the pop takes the word the push stored, and writing it to the pair puts the pair's bytes back; for PSW
the flags, since the flag byte keeps all five. -/
theorem pushThenPopRestores : Obligations.PushThenPopRestores := by
  intro s hs
  refine ⟨pop_restores_of_push (p := .bc) hs rfl rfl fun v => setBc_cat s.b s.c { v with sp := s.sp },
    pop_restores_of_push (p := .de) hs rfl rfl fun v => setDe_cat s.d s.e { v with sp := s.sp },
    pop_restores_of_push (p := .hl) hs rfl rfl fun v => setHl_cat s.h s.l { v with sp := s.sp },
    pop_restores_of_push (p := .psw) hs rfl rfl fun v => ?psw⟩
  have hpsw := setPsw_cat s.a (flagByte s.flags) { v with sp := s.sp }
  rwa [flagsOfByte_flagByte] at hpsw

/-- Settles O53: XCHG exchanges the bytes of DE and HL, and SPHL copies HL to SP. -/
theorem exchangeAndSphl : Obligations.ExchangeAndSphl :=
  ⟨runs_of_operation rfl run_xchg, runs_of_operation rfl fun _ => rfl⟩

end

section
/-! SUPPORT. The statement of an instruction that does nothing but move PC past itself, from its operation (R312). -/

namespace Sys2Proof.Machine
open Claims

/-- An instruction without operands and with the operation that does nothing is one byte and keeps every state. -/
theorem runs_of_skip {i : Instr} {op : Byte} (hop : i.opcode = op) (hi : i.immediate = .none)
    (ho : operationOf i = .skip) : Runs i [op] (fun s => s) :=
  runs_of_operation (encode_of_none hop hi) fun s => by rw [ho, Operation.run]

end Sys2Proof.Machine
end

section
/-! PROOFS. The NOPs, EI, DI and HLT (47_io_machine_control.md). -/

open Sys2Proof Sys2Proof.Machine Sys2Proof.Claims

/-- Settles O55: NOP, its aliases, DI and EI are all the operation that does nothing; HLT is the one that halts. -/
theorem nopHltEiDi : Obligations.NopHltEiDi := by
  unfold Obligations.NopHltEiDi
  iterate 10 refine ⟨runs_of_skip rfl rfl rfl, ?_⟩
  exact runs_of_operation (encode_of_none rfl rfl) fun _ => rfl

end

section
/-! SUPPORT. A step and a run answer next: the equation of each, a case per state the definition tells apart (R362, R363). -/

namespace Sys2Proof.Machine

/-- No state is stuck: a halted core answers its own state, a running one the state its instruction's operation gives. -/
theorem safe (s : State) : Safe s := by
  cases hh : s.halted with
  | true => exact ⟨s, step_of_halted hh⟩
  | false => exact ⟨_, (step_of_running hh).trans (exec_eq_run _ _)⟩

theorem run_of_halted {s : State} (h : s.halted = true) (n : Nat) : run n s = .next (s, 0) := by
  cases n <;> simp [run, h]

theorem run_succ_of_step {n k : Nat} {s t u : State} (h : s.halted = false) (hst : step s = .next t)
    (hrun : run n t = .next (u, k)) : run (n + 1) s = .next (u, k + 1) := by
  simp [run, h, hst, hrun]

/-- By induction on the steps a run may take, from every state: the rest of a run starts in the state of its first step. -/
theorem exists_run_eq_next (n : Nat) (s : State) : ∃ t k, run n s = .next (t, k) ∧ k ≤ n := by
  induction n generalizing s with
  | zero => exact ⟨s, 0, rfl, Nat.le_refl 0⟩
  | succ n ih =>
    cases hh : s.halted with
    | true => exact ⟨s, 0, run_of_halted hh _, Nat.zero_le _⟩
    | false =>
      obtain ⟨t, hst⟩ := safe s
      obtain ⟨u, k, hrun, hk⟩ := ih t
      exact ⟨u, k + 1, run_succ_of_step hh hst hrun, Nat.succ_le_succ hk⟩

end Sys2Proof.Machine
end

section
/-! PROOFS. No step faults or refuses (60_exceptions.md). -/

open Sys2Proof Sys2Proof.Machine

/-- Settles O12: every instruction is an operation, so every step answers next, and a run is made of steps. -/
theorem everyStepAnswersANextState : Obligations.EveryStepAnswersANextState :=
  ⟨safe, fun i s => ⟨_, exec_eq_run i s⟩, exists_run_eq_next⟩

end

section
/-! SUPPORT. What the host's accesses leave and read: bytes loaded, a register or a flag written, a number masked
(R366 to R373). -/

namespace Sys2Proof.Machine

/-- A host value masked to `w` bits is the value mod `2 ^ w` (R367). -/
theorem natCast_toNat_ofInt (w : Nat) (v : Int) : ((BitVec.ofInt w v).toNat : Int) = v % 2 ^ w := by
  rw [BitVec.toNat_ofInt, Int.toNat_of_nonneg (Int.emod_nonneg v (by positivity))]
  norm_cast

/-- Up to 65,536 bytes loaded do not overlap: each is read back, masked (R369). -/
theorem peek_load_at {s : State} (hs : s.mem.wf) {base : Int} {bytes : List Int} (hlen : bytes.length ≤ 65536) {k : Nat}
    {v : Int} (hk : bytes[k]? = some v) : peek (base + k) (load base bytes s) = maskByte v := by
  rw [peek, maskWord_add_natCast]
  exact memRead_storeBytes_at _ hs (by simpa using hlen) (by simp [hk])

/-- A register of 8 bits reads as it was written, masked (R372). -/
theorem readRegister_writeRegister_byte {n : RegName} (hn : n ∈ [RegName.a, .b, .c, .d, .e, .h, .l]) (v : Int)
    (s : State) : readRegister n (writeRegister n v s) = (maskByte v).toNat := by
  fin_cases hn <;> rfl

/-- A register of 16 bits and a pair read as they were written, masked (R372). -/
theorem readRegister_writeRegister_word {n : RegName} (hn : n ∈ [RegName.sp, .pc, .bc, .de, .hl]) (v : Int)
    (s : State) : readRegister n (writeRegister n v s) = (maskWord v).toNat := by
  fin_cases hn <;> simp [readRegister, writeRegister]

/-- The flag byte reads as it was written, masked, its fixed bits forced (R28, R372). -/
theorem readRegister_writeRegister_flags (v : Int) (s : State) :
    readRegister .flags (writeRegister .flags v s) = (v % 2 ^ 8).toNat &&& 0xD7 ||| 0x02 := by
  have h : (maskByte v).toNat = (v % 2 ^ 8).toNat := BitVec.toNat_ofInt ..
  rw [← h]
  exact congrArg BitVec.toNat (flagByte_flagsOfByte _)

/-- PSW reads as it was written, masked, the fixed bits of its flag byte forced (R24, R372). -/
theorem readRegister_writeRegister_psw (v : Int) (s : State) :
    readRegister .psw (writeRegister .psw v s) = (v % 2 ^ 16).toNat &&& 0xFFD7 ||| 0x0002 := by
  have h : (maskWord v).toNat = (v % 2 ^ 16).toNat := BitVec.toNat_ofInt ..
  rw [← h]
  exact congrArg BitVec.toNat (psw_setPsw _ s)

theorem readFlag_setFlag (k k' : FlagName) (x : Bool) (s : State) :
    readFlag k' (setFlag k x s) = if k' = k then x else readFlag k' s := by
  cases k <;> cases k' <;> rfl

/-- `set_flag` changes the flags alone. -/
theorem setFlag_eq (k : FlagName) (x : Bool) (s : State) : setFlag k x s = { s with flags := (setFlag k x s).flags } := by
  cases k <;> rfl

end Sys2Proof.Machine
end

section
/-! SUPPORT. What a run that may take a step has done, and from it how runs compose and when one ends early (R363). -/

namespace Sys2Proof.Machine

/-- A run that may take a step found the core halted, or took one and went on from there. -/
theorem run_succ_cases {n k : Nat} {s u : State} (h : run (n + 1) s = .next (u, k)) :
    (s.halted = true ∧ u = s ∧ k = 0) ∨
    (s.halted = false ∧ ∃ t j, step s = .next t ∧ run n t = .next (u, j) ∧ k = j + 1) := by
  cases hh : s.halted with
  | true =>
    rw [run_of_halted hh] at h
    cases h; exact .inl ⟨rfl, rfl, rfl⟩
  | false =>
    obtain ⟨t, hst⟩ := safe s
    obtain ⟨v, j, hrun, -⟩ := exists_run_eq_next n t
    rw [run_succ_of_step hh hst hrun] at h
    cases h; exact .inr ⟨rfl, t, j, hst, hrun, rfl⟩

/-- Runs compose, their counts added. -/
theorem run_add {n m j k : Nat} {s t u : State} (hn : run n s = .next (t, j)) (hm : run m t = .next (u, k)) :
    run (n + m) s = .next (u, j + k) := by
  induction n generalizing s j with
  | zero =>
    cases hn
    rw [Nat.zero_add, Nat.zero_add]; exact hm
  | succ n ih =>
    obtain ⟨hh, rfl, rfl⟩ | ⟨hh, v, i, hst, hrun, rfl⟩ := run_succ_cases hn
    · rw [run_of_halted hh] at hm ⊢
      cases hm; rfl
    · rw [Nat.succ_add, Nat.succ_add]
      exact run_succ_of_step hh hst (ih hrun)

/-- A run that retires fewer instructions than it may ends halted. -/
theorem halted_of_run_lt {n j : Nat} {s t : State} (h : run n s = .next (t, j)) (hj : j < n) : t.halted = true := by
  induction n generalizing s j with
  | zero => exact absurd hj (Nat.not_lt_zero j)
  | succ n ih =>
    obtain ⟨hh, rfl, rfl⟩ | ⟨-, v, i, -, hrun, rfl⟩ := run_succ_cases h
    · exact hh
    · exact ih hrun (Nat.lt_of_succ_lt_succ hj)

end Sys2Proof.Machine
end

section
/-! PROOFS. The host's operations and the halted core (70_reset_and_hazards.md). -/

open Sys2Proof Sys2Proof.Machine

/-- Settles O57: by what a store, and a list of stores, puts where it stores and leaves elsewhere. -/
theorem peekPokeLoad : Obligations.PeekPokeLoad := by
  refine fun s => ⟨fun addr => rfl, fun hs => ⟨fun addr byte => ?_, fun base bytes hlen => ?_⟩⟩
  · exact ⟨rfl, memRead_memWrite_same _ _ hs, fun a ha => memRead_memWrite_other ha _ hs⟩
  · exact ⟨storeBytes_eq _ _ s, fun k v hk => peek_load_at hs hlen hk, fun a ha => memRead_load_other hs ha⟩

/-- Settles O58: a name reads a field or two halves, a write is masked and replaces just these, and the flag that is read
after `set_flag` is the one set or the one there was. -/
theorem registerAndFlagAccessByTheHost : Obligations.RegisterAndFlagAccessByTheHost := by
  intro s v
  refine ⟨?reads, ?flags, fun n hn => ?byte, fun n hn => ?word, readRegister_writeRegister_flags v s,
    readRegister_writeRegister_psw v s, ?frames⟩
  case reads =>
    simp only [List.forall_mem_cons]
    iterate 10 refine ⟨rfl, ?_⟩
    exact ⟨cat_toNat .., cat_toNat .., cat_toNat .., cat_toNat .., List.forall_mem_nil _⟩
  case flags =>
    simp only [List.forall_mem_cons]
    exact ⟨rfl, rfl, rfl, rfl, rfl, List.forall_mem_nil _⟩
  case byte =>
    rw [readRegister_writeRegister_byte hn]; exact natCast_toNat_ofInt 8 v
  case word =>
    rw [readRegister_writeRegister_word hn]; exact natCast_toNat_ofInt 16 v
  case frames =>
    iterate 14 refine ⟨rfl, ?_⟩
    refine ⟨fun k x => ⟨?_, fun k' hk => ?_, setFlag_eq k x s⟩, fun id id' => ⟨rfl, rfl, rfl⟩⟩
    · rw [readFlag_setFlag, if_pos rfl]
    · rw [readFlag_setFlag, if_neg hk]

/-- Settles O59: by the two cases of a run that may take a step. -/
theorem runsComposeAndCountRetiredInstructions : Obligations.RunsComposeAndCountRetiredInstructions :=
  ⟨fun _ => rfl, fun n _ h => run_of_halted h n, fun _ _ _ _ _ => run_succ_of_step, fun _ _ _ _ _ _ _ => run_add,
    fun _ _ _ _ => halted_of_run_lt⟩

/-- Settles O9: a halted core fetches nothing. -/
theorem haltedStepChangesNothing : Obligations.HaltedStepChangesNothing :=
  fun _ => step_of_halted

end
